-- ==== Sys2Proof/Word.lean ====
section
/-! DEFINITION. The word types of the WB7160: bytes, ticks, counters, cells. -/

namespace Sys2Proof

/-- One byte of the cell path, of a management link frame, or of record memory. -/
abbrev Byte := BitVec 8

/-- A count of ticks of the Time Base: 48 bits, differences modulo 2^48 (00_scope.md, Time; R23). -/
abbrev Tick := BitVec 48

/-- A device counter: 48 bits, wraps modulo 2^48 (00_scope.md, Counters). -/
abbrev DeviceCounter := BitVec 48

/-- A record counter: 32 bits, saturates (R11). -/
abbrev RecordCounter := BitVec 32

/-- The 64 data bits of one word of record memory (R88). -/
abbrev DataWord := BitVec 64

/-- One bit per bit of a 72-bit word of record memory: bits 63..0 stand for the data bits, bits 71..64
for the check bits (R88). A 1 marks a bit in error. -/
abbrev ErrorMask := BitVec 72

/-- The fabric's unit: 64 bytes in order of transfer (R180). -/
abbrev Cell := Vector Byte 64

end Sys2Proof
end

