-- ==== Sys2Proof/Syntax.lean ====
section
/-! DEFINITION. The events of the WB7160: one constructor for each row of spec/opcode_table.json. The table gives
no operands. An operand here is what the outside partner of the event decides: bytes presented, bits found damaged,
which of several requesters is first. An operand left out has the value given with it: nothing falls within a visit, and
no byte is clocked behind a transaction. -/

namespace Sys2Proof

/-- Who asks the Cell Egress Port for a place (R129). -/
inductive Requester where
  /-- the cell in the classification stage -/
  | stage
  /-- the head waiting cell of the Miss Table entry that names this record -/
  | entry (number : Nat)
  deriving DecidableEq, Repr

/-- The kinds of a transaction on the management link (R159). -/
inductive LinkKind where
  | command | responseRead | noticeRead | linkStatus
  deriving DecidableEq, Repr

/-- A transaction that ends before its defined end (R159), with the whole bytes clocked since chip-select fell.
`entered`: members that joined the queue after the kind byte's end (R164, R165, log 15). -/
inductive Abandoned where
  /-- chip-select rises before the first byte, which names the kind, is whole -/
  | unnamed
  | command (clocked : Nat)
  | responseRead (entered : Nat) (clocked : Nat)
  | noticeRead (entered : Nat) (clocked : Nat)
  | linkStatus (clocked : Nat)
  deriving DecidableEq, Repr

/-- A NOTICE-READ that completes within a visit (R119), with the operands of NOTICE_READ. -/
structure ReadWithin where
  entered : Nat
  more : Nat
  deriving DecidableEq, Repr

/-- What falls within one visit (log 19, log 34). -/
structure VisitEvents where
  /-- how many claims of record commands are taken between the step's reading of the Occupancy Map and the visit's claim
  on a line (R104, R107, R115) -/
  claims : Nat
  /-- the NOTICE-READ that completes between two offers of the visit (R119), named by the offer before which it
  completes: the IDLE or IDLE_RETIRED offer, or the move of an owed kind (R110, R114) -/
  idle : Option ReadWithin
  owedExpired : Option ReadWithin
  owedIdle : Option ReadWithin
  owedAlert : Option ReadWithin
  owedFaulted : Option ReadWithin
  deriving DecidableEq, Repr

/-- Nothing falls within the visit. -/
def VisitEvents.none : VisitEvents := ⟨0, .none, .none, .none, .none, .none⟩

/-- Bits found in error in one word of an image: the word's index in the image and the bits that changed since the
image was last written or read (log 8). -/
abbrev Damage := List (Nat × ErrorMask)

/-- The events, in the order of the table. -/
inductive Instr where
  /-- POWER_ON. `selectLow`: chip-select is low when power-on ends (R159). `sram`, `errors`: what the SRAM
  holds, data bytes by byte address and bits in error by word address (R88, log 11). -/
  | powerOn (selectLow : Bool) (sram : List Host.Cell) (errors : List (Nat × ErrorMask))
  /-- RESET_PIN_ASSERT. `words`: words that the oldest write in flight had transferred (R88, log 12). -/
  | resetPinAssert (words : Nat)
  /-- RESET_PIN_DEASSERT. `selectLow`: chip-select is low at that moment (R159). -/
  | resetPinDeassert (selectLow : Bool)
  | tick
  /-- SWEEP_STEP. `during`: what falls within the visit it makes (R104, R119). -/
  | sweepStep (during : VisitEvents := .none)
  /-- INGRESS_TRANSFER_BEGIN. `first`: the byte presented with the start-of-cell indication (R126). -/
  | ingressTransferBegin (first : Byte)
  /-- CELL_ACCEPT. `rest`: bytes 1 to 63 of the cell in transfer (R126). -/
  | cellAccept (rest : Vector Byte 63)
  | ingressHeadLeaves
  /-- EGRESS_PLACE_GRANT. `requester`: the requester that is given the place (R129). -/
  | egressPlaceGrant (requester : Requester)
  | cellEmit
  | memoryIssue
  | writeBackComplete
  /-- FILL_READ_COMPLETE. `damage`: bits of the image found in error (R90, log 8). -/
  | fillReadComplete (damage : Damage)
  /-- SWEEP_READ_COMPLETE. `damage`: bits of the image found in error (R90, log 8). `during`: what falls
  within the visit, in which no claim is taken on the held record (R115, R119). -/
  | sweepReadComplete (damage : Damage) (during : VisitEvents := .none)
  /-- SWEEP_WRITE_COMPLETE. `during`: what falls within the visit of a remembered step (R103, R104, R119). -/
  | sweepWriteComplete (during : VisitEvents := .none)
  | formatWriteComplete
  /-- RESUME_READ_COMPLETE. `damage`: bits of the image found in error (R90, log 8). -/
  | resumeReadComplete (damage : Damage)
  | resumeWriteComplete
  | restartWriteBackRequest
  | restartComplete
  /-- COMMAND. The frame as the host sent it; the length byte is the number of parameters (R160). `more`: bytes clocked
  after the second check byte, the trailing byte the first of them (R159, R160). -/
  | command (tag code : Byte) (params : List Byte) (check : BitVec 16) (more : Nat := 0)
  /-- RESPONSE_READ. `entered`: responses that joined the queue after the kind byte's end, where the count byte is taken
  (R164, log 15); `more`: bytes clocked after the defined end (R159). -/
  | responseRead (entered : Nat) (more : Nat := 0)
  /-- NOTICE_READ. `entered`, `more`: as for RESPONSE_READ (R165, R159, log 15). -/
  | noticeRead (entered : Nat) (more : Nat := 0)
  /-- LINK_STATUS. `more`: bytes clocked after the defined end (R159). -/
  | linkStatus (more : Nat := 0)
  /-- VOID_TRANSACTION. `first`: the kind byte; `more`: bytes clocked after it (R159). -/
  | voidTransaction (first : Byte) (more : Nat)
  | transactionAbandon (what : Abandoned)
  | setup
  | format
  | resume
  | restart
  | status
  | ruleWrite
  | ruleRead
  | admitRecord
  | amend
  | hold
  | release
  | retire
  | query
  | pin
  | unpin
  | commandStepRetry
  /-- PARTIAL_CELL_DROPPED. `first`: the start-of-cell byte that cuts the cell in transfer short (R126). -/
  | partialCellDropped (first : Byte := 0)
  deriving DecidableEq, Repr

end Sys2Proof
end

