-- ==== Sys2Proof/Decode.lean ====
section
/-! DEFINITION. The kind byte of a link transaction. Reading an event from a word of the opcode table: no row of
spec/opcode_table.json gives bits (its "fields" are empty and it has no "fixed"), the WB7160's events are no instruction
words, and so no word spells one. -/

namespace Sys2Proof

/-- A transaction kind's code (R181). -/
def LinkKind.code : LinkKind → Byte
  | .command => 0xA1#8
  | .responseRead => 0xA2#8
  | .noticeRead => 0xA3#8
  | .linkStatus => 0xA4#8

/-- The kind a first byte names; any other byte makes the transaction void (R159, R181). -/
def LinkKind.ofCode (first : Byte) : Option LinkKind :=
  [LinkKind.command, .responseRead, .noticeRead, .linkStatus].find? fun k => k.code == first

/-- The event that the word `w` of `nbits` bits spells by the table's bits: none, since no row has bits. -/
def decodeTableWord (_nbits _w : Nat) : Option Instr := none

end Sys2Proof
end

