-- ==== Sys2Proof/Config.lean ====
section
/-! DEFINITION. What every WB7160 fixes (the principal quantities of 00_scope.md) and the free values: what the
spec leaves open. A free value is opaque, without a body: nothing can be proved of it. -/

namespace Sys2Proof.Config

/-- Places of the Ingress FIFO, and of the Egress FIFO (R127, R129). -/
abbrev fifoPlaces : Nat := 16
/-- Entries of the Miss Table (R70). -/
abbrev missEntries : Nat := 8
/-- Slots of the Pending Cell Store (R78). -/
abbrev pendingSlots : Nat := 32
/-- Most lines that may be pinned (R68). -/
abbrev pinLimit : Nat := 48
/-- Notices the notice queue holds (R118). -/
abbrev noticePlaces : Nat := 16
/-- Most outstanding commands (R162). -/
abbrev outstandingLimit : Nat := 8
/-- Most record memory transactions in flight (R83). -/
abbrev flightLimit : Nat := 4
/-- Record numbers the Occupancy Map and the record memory's address pins reach (R18, section 12.5). -/
abbrev maxRecords : Nat := 16384
/-- Words of record memory that RM_ADDR reaches: 16 for each record (R88). -/
abbrev memoryWords : Nat := 262144
/-- The cost of one cell in credit units (R26). -/
abbrev cellCost : Nat := 4096

/-- FREE VALUE (log 7). The condition in which the code's decoding places a word with three or more bits in
error: any of the three may result (R90). `none`: uncorrectable. `some none`: clean, the data as read.
`some (some b)`: corrected, bit `b` of the word as read put the other way. -/
opaque multiErrorDecode (data : DataWord) (errors : ErrorMask) : Option (Option (Fin 72))

/-- FREE VALUE (log 9). What the copy of a VACANT record holds in the fields of an uncorrectable word `word`
of its image (R91 uses none of them); `use` counts the reads that may have needed such a value. -/
opaque lostWord (use : Nat) (word : Nat) : DataWord

end Sys2Proof.Config
end

