-- ==== Sys2Proof/Machine/State.lean ====
section
/-! DEFINITION. The state of the WB7160 as plain data, and its value right after reset. -/

namespace Sys2Proof.Machine

/-! ### Stream records (01_stream_records.md) -/

/-- The five record states (R14). -/
inductive RecState where
  | vacant | active | held | expired | faulted
  deriving DecidableEq, Repr

/-- The kinds a record may owe (R12). -/
inductive OwedKind where
  | expired | idle | alert | faulted
  deriving DecidableEq, Repr

/-- A set of owed kinds (R12). -/
structure OwedSet where
  expired : Bool
  idle : Bool
  alert : Bool
  faulted : Bool
  deriving DecidableEq, Repr

/-- The empty owed set. -/
def OwedSet.empty : OwedSet := ⟨false, false, false, false⟩

/-- The read that made a record FAULTED (R94, R120). -/
inductive FaultSource where
  | none | fill | sweep | resume
  deriving DecidableEq, Repr

/-- A stream record: section 1.2, with the FAULTED record's indications (R16). The actions are the 2-bit codes of
R183, 0 MARK and 1 DISCARD: an image can hold a code that names no action (R92). -/
structure Record where
  state : RecState
  generation : BitVec 16
  generationKnown : Bool
  faultSource : FaultSource
  owedLost : Bool
  owed : OwedSet
  label : BitVec 24
  sustainedRate : BitVec 16
  depth : BitVec 32
  peakInterval : BitVec 16
  peakTolerance : BitVec 16
  peakAction : BitVec 2
  sustainedAction : BitVec 2
  budget : BitVec 32
  lastUpdate : Tick
  lastConform : Option Tick
  lastSeen : Tick
  expiry : Option Tick
  idleLimit : Option (BitVec 32)
  autoRetire : Bool
  alertThreshold : Option (BitVec 32)
  alertFired : Bool
  idleReported : Bool
  passed : RecordCounter
  marked : RecordCounter
  excessDiscarded : RecordCounter
  stateDiscarded : RecordCounter
  deriving DecidableEq, Repr

/-! ### The Record Store (04_the_record_cache_and_miss_table.md) -/

/-- One line of the Record Cache (R61): the line state with what it carries in that state. -/
inductive Line where
  | empty
  | valid (number : Nat) (copy : Record) (dirty referenced pinned : Bool)
  | evicting (old : Nat) (copy : Record) (reserved : Nat)
  | filling (reserved : Nat)
  deriving DecidableEq, Repr

/-- What an entry's fill read waits for (R70). -/
inductive Phase where
  | waitEvict | waitSweep | reading
  deriving DecidableEq, Repr

/-- A waiter of an entry (R70). The command step is the current command; `metFault`: it was waiting when the entry's
own fill read made the record FAULTED (R95). -/
inductive Waiter where
  | cell (cell : Cell)
  | command (metFault : Bool)
  deriving DecidableEq, Repr

/-- An entry of the Miss Table (R70). -/
structure Entry where
  number : Nat
  phase : Phase
  target : Fin 64
  fillDone : Bool
  waiters : List Waiter
  deriving DecidableEq, Repr

/-- The Sweep Hold and the visit made through it (R82, R108): no record, a record whose sweep read has not completed,
or a record with its working copy, to be written. -/
inductive SweepHold where
  | none
  | reading (number : Nat)
  | writing (number : Nat) (copy : Record)
  deriving DecidableEq, Repr

/-- A cache request (R83). -/
inductive CacheReq where
  | fill (number : Nat)
  | writeBack (line : Fin 64)
  deriving DecidableEq, Repr

/-- The waiting sweep request (R83). -/
inductive SweepReq where
  | read (number : Nat)
  | write (number : Nat)
  deriving DecidableEq, Repr

/-- A record memory transaction in flight (R83, R98, R99, R100). -/
inductive Txn where
  | fill (number : Nat)
  | writeBack (line : Fin 64)
  | sweepRead (number : Nat)
  | sweepWrite (number : Nat)
  | formatWrite (number : Nat)
  | resumeRead (number : Nat)
  | resumeWrite (number : Nat) (copy : Record)
  deriving DecidableEq, Repr

/-- The Record Store's device counters (R86). -/
structure StoreCounters where
  hits : DeviceCounter
  misses : DeviceCounter
  dirtyWriteBacks : DeviceCounter
  correctedErrors : DeviceCounter
  uncorrectableErrors : DeviceCounter
  deriving DecidableEq, Repr

/-! ### Cell ports and Label Map (08_cell_ports.md, 03_the_label_map.md) -/

/-- The discard reasons (00_scope.md, R133). -/
inductive Discard where
  | header | noRule | unadmitted | mismatch | missOverflow | state | excess | fault
  deriving DecidableEq, Repr

/-- The dispositions under which a cell is emitted (R133). -/
inductive Disposition where
  | pass | mark | unpoliced
  deriving DecidableEq, Repr

/-- A filled place of the Egress FIFO (R129). -/
structure EgressCell where
  cell : Cell
  disposition : Disposition
  deriving DecidableEq, Repr

/-- The cell in the classification stage (R51): it waits for a place for its direct evaluation against record
`number` (R81), or for a place as UNPOLICED with its record number if it has one (R53, R80). -/
inductive StageCell where
  | direct (cell : Cell) (number : Nat)
  | unpoliced (cell : Cell) (number : Option Nat)
  deriving DecidableEq, Repr

/-- The thirteen device disposition counters, in the order of R133. -/
structure PortCounters where
  accepted : DeviceCounter
  emitted : DeviceCounter
  passed : DeviceCounter
  marked : DeviceCounter
  unpoliced : DeviceCounter
  header : DeviceCounter
  noRule : DeviceCounter
  unadmitted : DeviceCounter
  mismatch : DeviceCounter
  missOverflow : DeviceCounter
  stateDiscards : DeviceCounter
  excess : DeviceCounter
  fault : DeviceCounter
  deriving DecidableEq, Repr

/-- A classification rule (R47). -/
structure Rule where
  enable : Bool
  matchLabel : BitVec 24
  maskLabel : BitVec 24
  fieldPosition : Nat
  fieldWidth : Nat
  recordBase : Nat
  rangeLength : Nat
  deriving DecidableEq, Repr

/-! ### Notices (07_notices.md) -/

/-- The kind of a notice with its detail (R117). -/
inductive NoticeBody where
  | expired
  | idle
  | idleRetired (dropped : OwedSet)
  | alert (count : RecordCounter)
  | faulted (source : FaultSource) (owedLost : Bool)
  deriving DecidableEq, Repr

/-- A notice (R117). -/
structure Notice where
  body : NoticeBody
  number : Nat
  generation : BitVec 16
  tick : Tick
  deriving DecidableEq, Repr

/-! ### Commands and the management link (09_commands.md, 10_the_management_link.md) -/

/-- An accepted command: tag, code and parameters exactly as the frame carried them (R163). -/
structure Command where
  tag : Byte
  code : Byte
  params : List Byte
  deriving DecidableEq, Repr

/-- The conditions of the Maintenance Engine (R136), each with the current command. -/
inductive Engine where
  | idle
  | checking (c : Command)
  | waitingForEntry (c : Command)
  | waitingOnEntry (c : Command)
  | inOperation (c : Command)
  deriving DecidableEq, Repr

/-- The outcome codes of a response (R141, R182). -/
inductive OutcomeCode where
  | ok | wrongState | badRecord | stale | notVacant | isVacant | recordState | guarded | badField | mapMismatch
  | pinLimit | faulted | badSetup
  deriving DecidableEq, Repr

/-- A response (R163). -/
structure Response where
  tag : Byte
  code : Byte
  outcome : OutcomeCode
  payload : List Byte
  deriving DecidableEq, Repr

/-- The acceptance codes (R161). -/
inductive Acceptance where
  | accepted | full | checkError | lengthError | unknownCode | tagInUse
  deriving DecidableEq, Repr

/-! ### Operating states (11_operating_states.md) -/

/-- The device states (R170). -/
inductive DeviceState where
  | config | formatting | resuming | running | restarting
  deriving DecidableEq, Repr

/-- The values of the unadmitted policy (R53) and of the miss overflow policy (R80). -/
inductive Policy where
  | discard | pass
  deriving DecidableEq, Repr

/-- The six SETUP parameters in force (R173). -/
structure SetupParams where
  capacity : Nat
  tickPeriod : Nat
  sweepInterval : Nat
  guard : Nat
  unadmitted : Policy
  overflow : Policy
  deriving DecidableEq, Repr

/-- The three preserved values (R174). -/
structure Preserved where
  capacity : Nat
  tickPeriod : Nat
  guard : Nat
  deriving DecidableEq, Repr

/-- The RESUME pass's counts of records by state (R99). -/
structure StateCounts where
  vacant : Nat
  active : Nat
  held : Nat
  expired : Nat
  faulted : Nat
  deriving DecidableEq, Repr

/-- The device-wide pass in progress: the record number next to issue (R98, R99), and for RESUME its counts and the
repair writes requested and not yet issued (R100). -/
inductive Pass where
  | none
  | format (next : Nat)
  | resume (next : Nat) (counts : StateCounts) (writes : List (Nat × Record))
  deriving DecidableEq, Repr

/-- Where the Record Store's part of RESTART stands (R87): not begun, draining (step 1), write-backs requested (step 2)
with their number, every line EMPTY (step 3) with that number. -/
inductive RestartPhase where
  | idle
  | draining
  | writingBack (requested : Nat)
  | emptied (requested : Nat)
  deriving DecidableEq, Repr

/-! ### Record memory (05_record_memory.md) -/

/-- Record memory. `bytes`: the data of each word as it was written, byte `k` of word `w` (bits 8k+7..8k) at byte
address 8w + k. `errors`: by word address, the bits of the 72-bit word that no longer are as written. What neither
lists reads as 0, without error (log 5, log 6). -/
structure Memory where
  bytes : List Host.Cell
  errors : List (Nat × ErrorMask)
  deriving DecidableEq, Repr

/-! ### The state -/

/-- Everything the spec gives the WB7160. INVENTORY.md names the rule of each field. -/
structure State where
  /-- the events waiting to be taken, first in first out (the model's own; log 2) -/
  pending : List Instr
  /-- the RESET pin is asserted (R172) -/
  resetPin : Bool
  device : DeviceState
  setup : SetupParams
  /-- the records-preserved indication with its values (R174) -/
  preserved : Option Preserved
  restart : RestartPhase
  pass : Pass
  /-- the Time Base's tick count (R23) -/
  now : Tick
  /-- the period of the tick in progress, in microseconds (R24) -/
  tickInProgress : Nat
  /-- the 16 classification rules (R47) -/
  rules : Vector Rule 16
  /-- the classification stage (R51) -/
  stage : Option StageCell
  /-- the ingress transfer in progress, with its first byte (R126) -/
  transfer : Option Byte
  /-- the Ingress FIFO, oldest first (R128) -/
  ingress : List Cell
  /-- the Egress FIFO, head first (R130) -/
  egress : List EgressCell
  ports : PortCounters
  /-- the count of cells inside (R133) -/
  cellsInside : Nat
  /-- the cell last sent on the egress port (log 16) -/
  egressOut : Option Cell
  /-- the Record Cache (R61) -/
  lines : Vector Line 64
  /-- the victim hand (R67) -/
  hand : Fin 64
  /-- the Miss Table in the order of opening; its cell waiters are the Pending Cell Store (R70, R78) -/
  missTable : List Entry
  /-- the record numbers whose Occupancy Map entry is set (R18) -/
  occupancy : List Nat
  hold : SweepHold
  /-- cache requests, oldest first (R83) -/
  cacheQ : List CacheReq
  sweepReq : Option SweepReq
  /-- transactions in flight, in issue order (R83) -/
  inFlight : List Txn
  /-- the owed-record count (R13) -/
  owedCount : Nat
  stats : StoreCounters
  /-- the sweep position (R104) -/
  sweepPos : Nat
  /-- the interval count (R102) -/
  interval : Nat
  /-- the remembered-step flag (R103) -/
  remembered : Bool
  /-- the notice queue, head first (R118) -/
  notices : List Notice
  engine : Engine
  /-- the command queue, oldest first (R163) -/
  cmdQueue : List Command
  /-- the response queue, oldest first (R163) -/
  responses : List Response
  /-- the last acceptance code (R160) -/
  lastAcceptance : Option Acceptance
  /-- chip-select was low when reset ended and has not risen since (R159) -/
  linkWaits : Bool
  /-- the bytes MG_DOUT carried in the most recent transaction (log 16) -/
  linkOut : List Byte
  /-- the length of the response queue when the last link transaction ended (the model's own; log 15) -/
  responsesAtEnd : Nat
  /-- the length of the notice queue when the last link transaction ended (the model's own; log 15) -/
  noticesAtEnd : Nat
  memory : Memory
  /-- free values used so far (the model's own; log 9) -/
  freeIndex : Nat
  deriving DecidableEq, Repr

/-- A rule's reset value (R47). -/
def Rule.initial : Rule :=
  { enable := false, matchLabel := 0, maskLabel := 0, fieldPosition := 0, fieldWidth := 0, recordBase := 0,
    rangeLength := 1 }

/-- The SETUP defaults (R173). -/
def SetupParams.initial : SetupParams :=
  { capacity := 4096, tickPeriod := 1, sweepInterval := 100, guard := 0, unadmitted := .discard,
    overflow := .discard }

/-- Every device disposition counter at 0 (R133). -/
def PortCounters.zero : PortCounters := ⟨0, 0, 0, 0, 0, 0, 0, 0, 0, 0, 0, 0, 0⟩

/-- Every Record Store counter at 0 (R86). -/
def StoreCounters.zero : StoreCounters := ⟨0, 0, 0, 0, 0⟩

/-- The machine right after reset: the values at the end of an assertion of the RESET pin (R172). The values the spec
does not give: `egressOut`, `linkOut` (log 16), `linkWaits` (log 17), `memory` (log 5), `freeIndex` (log 9),
`responsesAtEnd`, `noticesAtEnd` (log 15), `pending` (log 2). -/
def State.reset : State :=
  { pending := []
    resetPin := false
    device := .config
    setup := .initial
    preserved := none
    restart := .idle
    pass := .none
    now := 0
    tickInProgress := 1
    rules := Vector.replicate 16 .initial
    stage := none
    transfer := none
    ingress := []
    egress := []
    ports := .zero
    cellsInside := 0
    egressOut := none
    lines := Vector.replicate 64 .empty
    hand := 0
    missTable := []
    occupancy := []
    hold := .none
    cacheQ := []
    sweepReq := none
    inFlight := []
    owedCount := 0
    stats := .zero
    sweepPos := 4095
    interval := 0
    remembered := false
    notices := []
    engine := .idle
    cmdQueue := []
    responses := []
    lastAcceptance := none
    linkWaits := false
    linkOut := []
    responsesAtEnd := 0
    noticesAtEnd := 0
    memory := ⟨[], []⟩
    freeIndex := 0 }

/-! ### The outcomes other than a next state -/

/-- Why the block stops. -/
inductive Fault where
  /-- Raised by the completion of a record memory transaction (WRITE_BACK_COMPLETE, FILL_READ_COMPLETE,
  SWEEP_READ_COMPLETE, SWEEP_WRITE_COMPLETE, FORMAT_WRITE_COMPLETE, RESUME_READ_COMPLETE, RESUME_WRITE_COMPLETE) for a
  record number of 16384 or more: its words lie beyond the 262144 that RM_ADDR reaches (section 12.5), so they do not
  exist. No run from reset reaches such a state (R1). Safe: the model stops where the spec has no memory. -/
  | noSuchRecordMemory (number : Nat)
  deriving DecidableEq, Repr

/-- Why an event is refused. -/
inductive Refusal where
  /-- Raised by exec's arm of an event that has no meaning yet. Safe: the model stops. -/
  | notModelled (mnemonic : String)
  deriving DecidableEq, Repr

end Sys2Proof.Machine
end

