-- ==== Sys2Proof/Machine/Flags.lean ====
section
/-! DEFINITION. Flags and counts that follow from the state: the outputs IN_READY and MG_ATTN, and the counts the spec
defines as the number of something the state holds. -/

namespace Sys2Proof.Machine

/-- Line `i` of the Record Cache. -/
def lineAt (ls : Vector Line 64) (i : Fin 64) : Line := ls[i.val]'i.isLt

/-- The ingress is open in RUNNING alone (R127). -/
def ingressOpen (s : State) : Bool := s.device == .running

/-- Places of the Ingress FIFO filled by a cell or reserved by a transfer in progress (R127). -/
def ingressTaken (s : State) : Nat := s.ingress.length + s.transfer.toList.length

/-- IN_READY: the ingress is open and a place is neither filled nor reserved (R127). -/
def ingressReady (s : State) : Bool := ingressOpen s && decide (ingressTaken s < Config.fifoPlaces)

/-- MG_ATTN: a response or a notice waits (R123, R167). -/
def attention (s : State) : Bool := !s.responses.isEmpty || !s.notices.isEmpty

/-- The Egress FIFO has a free place (R129). -/
def egressRoom (s : State) : Bool := decide (s.egress.length < Config.fifoPlaces)

/-- The notice queue has room (R118). -/
def noticeRoom (s : State) : Bool := decide (s.notices.length < Config.noticePlaces)

/-- The pinned flag of a line. -/
def Line.pinned : Line → Bool
  | .valid _ _ _ _ p => p
  | _ => false

/-- The line is a VALID line with its dirty flag set. -/
def Line.isDirty : Line → Bool
  | .valid _ _ d _ _ => d
  | _ => false

/-- The line is EMPTY. -/
def Line.isEmpty : Line → Bool
  | .empty => true
  | _ => false

/-- The line is FILLING. -/
def Line.isFilling : Line → Bool
  | .filling _ => true
  | _ => false

/-- The pinned count: the number of lines with pinned set (R68). -/
def pinnedCount (s : State) : Nat := s.lines.toList.countP Line.pinned

/-- The cells among the waiters of one entry. -/
def Entry.cells (e : Entry) : Nat :=
  e.waiters.countP fun w => match w with
    | .cell _ => true
    | .command _ => false

/-- Slots of the Pending Cell Store that are taken (R78). -/
def pendingTaken (s : State) : Nat := (s.missTable.map Entry.cells).sum

/-- The current command (R136). -/
def Engine.current : Engine → Option Command
  | .idle => none
  | .checking c => some c
  | .waitingForEntry c => some c
  | .waitingOnEntry c => some c
  | .inOperation c => some c

/-- The outstanding count: commands queued, current, or with an unread response (R162). -/
def outstanding (s : State) : Nat :=
  s.cmdQueue.length + s.engine.current.toList.length + s.responses.length

/-- The tags in use: those of the outstanding commands (R162). -/
def tagsInUse (s : State) : List Byte :=
  s.cmdQueue.map (·.tag) ++ s.engine.current.toList.map (·.tag) ++ s.responses.map (·.tag)

/-- A record number below the guard boundary is guarded (R21). -/
def guarded (s : State) (number : Nat) : Bool := decide (number < s.setup.guard)

/-- The record the Sweep Hold names (R82). -/
def SweepHold.number : SweepHold → Option Nat
  | .none => Option.none
  | .reading n => some n
  | .writing n _ => some n

/-- A visit is in progress: one that outlasts its step is made through the Sweep Hold (R103). -/
def visitInProgress (s : State) : Bool := s.hold.number.isSome

end Sys2Proof.Machine
end

