-- ==== Sys2Proof/Machine/Bits.lean ====
section
/-! DEFINITION. Bytes, bit fields and the CRC-16: what the formats of 12_formats_and_signals.md are made of. -/

namespace Sys2Proof.Machine

/-- `v` in `n` bytes, most significant byte first (12, byte order). -/
def beBytes : Nat → Nat → List Byte
  | 0, _ => []
  | n + 1, v => BitVec.ofNat 8 (v / 256 ^ n) :: beBytes n v

/-- The byte at place `i` of `p`, 0 past its end. -/
def byteAt (p : List Byte) (i : Nat) : Byte := p.getD i 0#8

/-- The 2-byte field at place `i`. -/
def field16 (p : List Byte) (i : Nat) : BitVec 16 := byteAt p i ++ byteAt p (i + 1)

/-- The 3-byte field at place `i`. -/
def field24 (p : List Byte) (i : Nat) : BitVec 24 := byteAt p i ++ byteAt p (i + 1) ++ byteAt p (i + 2)

/-- The 4-byte field at place `i`. -/
def field32 (p : List Byte) (i : Nat) : BitVec 32 := field16 p i ++ field16 p (i + 2)

/-- The 6-byte field at place `i`. -/
def field48 (p : List Byte) (i : Nat) : BitVec 48 := field32 p i ++ field16 p (i + 4)

/-- The byte whose bits 0 to 7 are the members of the list, in order. Bits past its end are 0: R182 says so of the
LINK-STATUS flags, and the head of Formats and Signals of a bit marked ignored (RULE-READ's enable); for the other bytes
sent it is the model's choice (log 36). -/
def flagByte : List Bool → Byte
  | bits => BitVec.ofNat 8 (bits.foldr (fun b n => 2 * n + b.toNat) 0)

/-- One bit of the CRC-16: shift left; if the bit shifted out differs from the data bit, XOR 1021h (R179). -/
def crcBit (remainder : BitVec 16) (bit : Bool) : BitVec 16 :=
  if remainder.msb != bit then (remainder <<< 1) ^^^ 0x1021#16 else remainder <<< 1

/-- One byte of the CRC-16, most significant bit first (R179). -/
def crcByte (remainder : BitVec 16) (b : Byte) : BitVec 16 :=
  [7, 6, 5, 4, 3, 2, 1, 0].foldl (fun r i => crcBit r (b.getLsbD i)) remainder

/-- The CRC-16 of a list of bytes (R179). -/
def crc16 (bytes : List Byte) : BitVec 16 := bytes.foldl crcByte 0xFFFF#16

/-- A check value in two bytes, its high byte first (R179). -/
def checkBytes (check : BitVec 16) : List Byte := beBytes 2 check.toNat

/-- A frame with the CRC-16 over its bytes behind it (R179, R182). -/
def withCheck (frame : List Byte) : List Byte := frame ++ checkBytes (crc16 frame)

/-! ### The cell's fields (R180) -/

/-- The label: bytes 0 to 2. -/
def cellLabel (c : Cell) : BitVec 24 := field24 c.toList 0

/-- The mark flag: bit 0 of byte 3. -/
def cellMark (c : Cell) : Bool := (byteAt c.toList 3).getLsbD 0

/-- The header check carried in bytes 4 and 5. -/
def cellCheck (c : Cell) : BitVec 16 := field16 c.toList 4

/-- The check value computed over header bytes 0 to 3. -/
def headerCrc (c : Cell) : BitVec 16 := crc16 (c.toList.take 4)

/-- The header check agrees (R128). -/
def headerGood (c : Cell) : Bool := headerCrc c == cellCheck c

/-- The cell with its mark flag set and its header check recomputed over bytes 0 to 3 as they then stand (R131). -/
def markCell (cell : Cell) : Cell :=
  let marked := cell.set 3 (cell[3] ||| 1#8)
  let check := headerCrc marked
  (marked.set 4 (check.extractLsb' 8 8)).set 5 (check.extractLsb' 0 8)

/-- The cell whose first byte began the transfer and whose other bytes followed (R126). -/
def cellOfTransfer (first : Byte) (rest : Vector Byte 63) : Cell := (#v[first] ++ rest).cast (by decide)

end Sys2Proof.Machine
end

