-- ==== Sys2Proof/Machine/RecordMemory.lean ====
section
/-! DEFINITION. Record memory: its words and their errors (R88, R90), the record image (R183), and how a copy is formed
from a read (R91 to R93, R99). -/

namespace Sys2Proof.Machine

/-! ### Sparse lists in one canonical form: keys strictly rising, no entry equal to the default -/

/-- Put `v` at key `a` of a list sorted by key. -/
def sparsePut {α : Type} : List (Nat × α) → Nat → α → List (Nat × α)
  | [], a, v => [(a, v)]
  | (b, w) :: t, a, v =>
    if a < b then (a, v) :: (b, w) :: t else if a = b then (a, v) :: t else (b, w) :: sparsePut t a v

/-- Drop the entries at key `a`. -/
def sparseErase {α : Type} (m : List (Nat × α)) (a : Nat) : List (Nat × α) := m.filter fun p => p.1 != a

/-- Make key `a` read `v`, where an unlisted key reads `d`. -/
def sparseSet {α : Type} [DecidableEq α] (m : List (Nat × α)) (d : α) (a : Nat) (v : α) : List (Nat × α) :=
  if v = d then sparseErase m a else sparsePut m a v

/-- What key `a` reads, where an unlisted key reads `d`. -/
def sparseGet {α : Type} (m : List (Nat × α)) (d : α) (a : Nat) : α := (m.lookup a).getD d

/-- The canonical form. -/
abbrev sparseWf {α : Type} (m : List (Nat × α)) (d : α) (bound : Nat) : Prop :=
  m.Pairwise (fun p q => p.1 < q.1) ∧ ∀ p ∈ m, p.2 ≠ d ∧ p.1 < bound

/-- What a byte of record memory that nothing has written reads as (log 5). -/
def unwrittenByte : Byte := 0#8

/-- Record memory is in its canonical form, and lists no address beyond the reach of RM_ADDR. -/
abbrev Memory.wf (m : Memory) : Prop :=
  sparseWf m.bytes unwrittenByte (8 * Config.memoryWords) ∧ sparseWf m.errors 0#72 Config.memoryWords

/-- One byte of record memory. -/
def Memory.readByte (m : Memory) (a : Nat) : Byte := sparseGet m.bytes unwrittenByte a

/-- Write one byte; an address beyond the memory is not written. -/
def Memory.writeByte (m : Memory) (a : Nat) (v : Byte) : Memory :=
  if a < 8 * Config.memoryWords then { m with bytes := sparseSet m.bytes unwrittenByte a v } else m

/-- The bits in error of one word. -/
def Memory.errorAt (m : Memory) (w : Nat) : ErrorMask := sparseGet m.errors 0#72 w

/-- Set the bits in error of one word; a word beyond the memory has none. -/
def Memory.setError (m : Memory) (w : Nat) (e : ErrorMask) : Memory :=
  if w < Config.memoryWords then { m with errors := sparseSet m.errors 0#72 w e } else m

/-- The data of word `w` as it was written. -/
def Memory.readWord (m : Memory) (w : Nat) : DataWord :=
  m.readByte (8 * w + 7) ++ m.readByte (8 * w + 6) ++ m.readByte (8 * w + 5) ++ m.readByte (8 * w + 4) ++
    m.readByte (8 * w + 3) ++ m.readByte (8 * w + 2) ++ m.readByte (8 * w + 1) ++ m.readByte (8 * w)

/-- The bytes of a word from byte `k` on, written from address `a` on. -/
def Memory.writeBytes (m : Memory) (a : Nat) : List Byte → Memory
  | [] => m
  | b :: t => (m.writeByte a b).writeBytes (a + 1) t

/-- The eight bytes of a word, bits 7..0 first. -/
def wordBytes (d : DataWord) : List Byte := (List.range 8).map fun k => d.extractLsb' (8 * k) 8

/-- Write word `w` with fresh check bits: it is then without error (R89). -/
def Memory.writeWord (m : Memory) (w : Nat) (d : DataWord) : Memory :=
  (m.writeBytes (8 * w) (wordBytes d)).setError w 0#72

/-- Write the words of a list from word `w` on. -/
def Memory.writeWords (m : Memory) (w : Nat) : List DataWord → Memory
  | [] => m
  | d :: t => (m.writeWord w d).writeWords (w + 1) t

/-- Bits of record `number`'s image found in error (R90, log 8). -/
def Memory.addDamage (m : Memory) (number : Nat) (damage : Damage) : Memory :=
  damage.foldl
    (fun m p => if p.1 < 16 then m.setError (16 * number + p.1) (m.errorAt (16 * number + p.1) ^^^ p.2) else m) m

/-- The contents the SRAM holds at power-on (R88, log 11). -/
def Memory.ofContents (sram : List Host.Cell) (errors : List (Nat × ErrorMask)) : Memory :=
  errors.foldl (fun m p => m.setError p.1 p.2) (sram.foldl (fun m p => m.writeByte p.1 p.2) ⟨[], []⟩)

/-! ### Checking a word (R90) -/

/-- The condition of a word, with its data where it has any. -/
inductive WordCheck where
  | clean (data : DataWord)
  | corrected (data : DataWord)
  | uncorrectable
  deriving DecidableEq, Repr

/-- How many bits are in error. -/
def errorCount (e : ErrorMask) : Nat := (List.range 72).countP fun i => e.getLsbD i

/-- The data bits as read: the bits in error stand the other way. -/
def dataAsRead (d : DataWord) (e : ErrorMask) : DataWord := d ^^^ e.extractLsb' 0 64

/-- The condition of a word whose data was written `d` and whose bits `e` are in error: none, clean; one, located and
put right; two, detected; more, what the code's decoding gives (R90, log 6, log 7). -/
def checkWord (d : DataWord) (e : ErrorMask) : WordCheck :=
  match errorCount e with
  | 0 => .clean d
  | 1 => .corrected d
  | 2 => .uncorrectable
  | _ + 3 =>
    match Config.multiErrorDecode d e with
    | none => .uncorrectable
    | some none => .clean (dataAsRead d e)
    | some (some b) => .corrected (dataAsRead d e ^^^ (if b.val < 64 then 1#64 <<< b.val else 0#64))

/-- The sixteen words of record `number`, each checked. -/
def Memory.checkImage (m : Memory) (number : Nat) : List WordCheck :=
  (List.range 16).map fun k => checkWord (m.readWord (16 * number + k)) (m.errorAt (16 * number + k))

/-- Clean or corrected (R90). -/
def WordCheck.readable : WordCheck → Bool
  | .clean _ => true
  | .corrected _ => true
  | .uncorrectable => false

/-- Corrected (R90). -/
def WordCheck.wasCorrected : WordCheck → Bool
  | .corrected _ => true
  | _ => false

/-- The word's data, or `lost` where it is uncorrectable. -/
def WordCheck.dataOr (lost : DataWord) : WordCheck → DataWord
  | .clean d => d
  | .corrected d => d
  | .uncorrectable => lost

/-! ### The record image (R183) -/

/-- The code of a record state (R182). -/
def RecState.code : RecState → BitVec 3
  | .vacant => 0
  | .active => 1
  | .held => 2
  | .expired => 3
  | .faulted => 4

/-- The record state a code names; 101b to 111b name none (R183). -/
def RecState.ofCode (c : BitVec 3) : Option RecState :=
  if c = 0 then some .vacant else if c = 1 then some .active else if c = 2 then some .held
  else if c = 3 then some .expired else if c = 4 then some .faulted else none

/-- The code of a fault source (R182). -/
def FaultSource.code : FaultSource → BitVec 2
  | .none => 0
  | .fill => 1
  | .sweep => 2
  | .resume => 3

/-- The fault source a code names: every code names one (R182). -/
def FaultSource.ofCode (c : BitVec 2) : FaultSource :=
  if c = 0 then .none else if c = 1 then .fill else if c = 2 then .sweep else .resume

/-- The four bits of an owed set: bit 0 EXPIRED, bit 1 IDLE, bit 2 ALERT, bit 3 FAULTED (R182). -/
def OwedSet.bits (o : OwedSet) : BitVec 4 :=
  BitVec.ofBool o.faulted ++ BitVec.ofBool o.alert ++ BitVec.ofBool o.idle ++ BitVec.ofBool o.expired

/-- The owed set of four bits. -/
def OwedSet.ofBits (b : BitVec 4) : OwedSet :=
  { expired := b.getLsbD 0, idle := b.getLsbD 1, alert := b.getLsbD 2, faulted := b.getLsbD 3 }

/-- No kind is owed. -/
def OwedSet.isEmpty (o : OwedSet) : Bool := !o.expired && !o.idle && !o.alert && !o.faulted

/-- The identity word (R183). -/
def identityWord (r : Record) : DataWord :=
  0#32 ++ r.generation ++ 0#5 ++ BitVec.ofBool r.owedLost ++ r.faultSource.code ++ r.owed.bits ++
    BitVec.ofBool r.generationKnown ++ r.state.code

/-- Bits 59 to 0 of words 1 to 15 (R183). -/
def recordBodies (r : Record) : List (BitVec 60) :=
  [ 0#16 ++ r.sustainedAction ++ r.peakAction ++ r.sustainedRate ++ r.label,
    0#12 ++ r.peakInterval ++ r.depth,
    0#12 ++ r.peakTolerance ++ r.budget,
    0#12 ++ r.lastUpdate,
    0#11 ++ BitVec.ofBool r.lastConform.isSome ++ r.lastConform.getD 0,
    0#12 ++ r.lastSeen,
    0#11 ++ BitVec.ofBool r.expiry.isSome ++ r.expiry.getD 0,
    0#25 ++ BitVec.ofBool r.idleReported ++ BitVec.ofBool r.autoRetire ++ BitVec.ofBool r.idleLimit.isSome ++
      r.idleLimit.getD 0,
    0#26 ++ BitVec.ofBool r.alertFired ++ BitVec.ofBool r.alertThreshold.isSome ++ r.alertThreshold.getD 0,
    0#28 ++ r.passed,
    0#28 ++ r.marked,
    0#28 ++ r.excessDiscarded,
    0#28 ++ r.stateDiscarded,
    0#60,
    0#60 ]

/-- The sixteen data words written for a copy: every word after the first carries the owed set in bits 63 to 60, and in
a FAULTED copy nothing else (R89, R183). -/
def encodeImage (r : Record) : List DataWord :=
  identityWord r ::
    (recordBodies r).map fun b => r.owed.bits ++ (if r.state = .faulted then 0#60 else b)

/-- A 48-bit part with its presence bit above it (R183). -/
def optionalTick (w : DataWord) : Option Tick :=
  if w.getLsbD 48 then some (w.extractLsb' 0 48) else none

/-- A 32-bit part with its presence bit above it (R183). -/
def optional32 (w : DataWord) : Option (BitVec 32) :=
  if w.getLsbD 32 then some (w.extractLsb' 0 32) else none

/-- The record whose image holds the data words `ws`, in state `st` (R183). -/
def decodeRecord (st : RecState) (ws : List DataWord) : Record :=
  let w (k : Nat) : DataWord := ws.getD k 0
  { state := st
    generation := (w 0).extractLsb' 16 16
    generationKnown := (w 0).getLsbD 3
    faultSource := .ofCode ((w 0).extractLsb' 8 2)
    owedLost := (w 0).getLsbD 10
    owed := .ofBits ((w 0).extractLsb' 4 4)
    label := (w 1).extractLsb' 0 24
    sustainedRate := (w 1).extractLsb' 24 16
    depth := (w 2).extractLsb' 0 32
    peakInterval := (w 2).extractLsb' 32 16
    peakTolerance := (w 3).extractLsb' 32 16
    peakAction := (w 1).extractLsb' 40 2
    sustainedAction := (w 1).extractLsb' 42 2
    budget := (w 3).extractLsb' 0 32
    lastUpdate := (w 4).extractLsb' 0 48
    lastConform := optionalTick (w 5)
    lastSeen := (w 6).extractLsb' 0 48
    expiry := optionalTick (w 7)
    idleLimit := optional32 (w 8)
    autoRetire := (w 8).getLsbD 33
    alertThreshold := optional32 (w 9)
    alertFired := (w 9).getLsbD 33
    idleReported := (w 8).getLsbD 34
    passed := (w 10).extractLsb' 0 32
    marked := (w 11).extractLsb' 0 32
    excessDiscarded := (w 12).extractLsb' 0 32
    stateDiscarded := (w 13).extractLsb' 0 32 }

/-- A VACANT record with generation 0 and every other field 0: what the FORMAT pass writes (R15, R98). -/
def Record.blank : Record := decodeRecord .vacant []

/-- A field holds a value outside its range (R92). -/
def Record.outOfRange (r : Record) : Bool :=
  decide (r.depth.toNat < 4096) || decide (r.depth.toNat < r.budget.toNat) || decide (1 < r.peakAction.toNat) ||
    decide (1 < r.sustainedAction.toNat) || r.idleLimit == some 0 || r.alertThreshold == some 0

/-! ### Forming a copy from a read (R91 to R93, R99) -/

/-- What a read came to. -/
structure Formed where
  /-- the copy formed -/
  copy : Record
  /-- the read made the record FAULTED (R92) -/
  becameFaulted : Bool
  /-- words corrected (R90) -/
  corrected : Nat
  /-- a fill leaves the line dirty (R91, R93, R95, R96) -/
  dirty : Bool
  /-- a RESUME pass writes the image back (R100) -/
  repair : Bool
  deriving DecidableEq, Repr

/-- A FAULTED copy: the fields that carry no meaning are 0 (R89, R92, log 10). An owed ALERT delivered from such a copy
takes its detail from one of them, which is then the model's choice (log 35). -/
def faultedCopy (generation : BitVec 16) (known : Bool) (owed : OwedSet) (source : FaultSource) (lost : Bool) :
    Record :=
  { Record.blank with
    state := .faulted, generation := generation, generationKnown := known, owed := owed, faultSource := source,
    owedLost := lost }

/-- The owed-set copy of a word of the image: word 0 holds it in bits 7 to 4, the others in bits 63 to 60 (R183). -/
def owedCopy (k : Nat) (w : DataWord) : OwedSet :=
  .ofBits (if k = 0 then w.extractLsb' 4 4 else w.extractLsb' 60 4)

/-- The owed set of the lowest-numbered readable word from word `k` on (R92). -/
def recoverOwed : Nat → List WordCheck → Option OwedSet
  | _, [] => none
  | k, c :: t => if c.readable then some (owedCopy k (c.dataOr 0)) else recoverOwed (k + 1) t

/-- The data of the sixteen words; an uncorrectable word's is a free value (log 9). -/
def usedWords (use : Nat) (checks : List WordCheck) : List DataWord :=
  checks.zipIdx.map fun p => p.1.dataOr (Config.lostWord use p.2)

/-- The VACANT copy of a read: the owed set is empty, and the generation is 0 where word 0 is lost (R91; R12 for a
RESUME read, log 23). -/
def vacantCopy (use : Nat) (checks : List WordCheck) : Record :=
  let r := decodeRecord .vacant (usedWords use checks)
  { r with
    owed := .empty
    generation := if (checks.headD .uncorrectable).readable then r.generation else 0 }

/-- The copy formed from the sixteen words of a read by `source`, as a whole. `vacant`: a fill read of a record whose
Occupancy Map entry is clear (R91). `use`: the free value's index. -/
def formCopy (source : FaultSource) (vacant : Bool) (use : Nat) (checks : List WordCheck) : Formed :=
  let word0 := checks.headD .uncorrectable
  let state0 := RecState.ofCode ((word0.dataOr 0).extractLsb' 0 3)
  let corrected := checks.countP WordCheck.wasCorrected
  let anyLost := checks.any fun c => !c.readable
  let asRead := decodeRecord (state0.getD .vacant) (usedWords use checks)
  let touched := decide (0 < corrected) || anyLost
  if vacant then
    { copy := vacantCopy use checks, becameFaulted := false, corrected := corrected,
      dirty := touched || state0 != some .vacant, repair := touched }
  else if word0.readable && state0 == some .faulted then
    { copy := faultedCopy asRead.generation asRead.generationKnown asRead.owed asRead.faultSource asRead.owedLost,
      becameFaulted := false, corrected := corrected, dirty := touched, repair := decide (0 < corrected) }
  else if source == .resume && word0.readable && state0 == some .vacant then
    { copy := vacantCopy use checks, becameFaulted := false, corrected := corrected, dirty := touched,
      repair := touched }
  else if anyLost || state0 == none || state0 == some .vacant || asRead.outOfRange then
    let owed := recoverOwed 0 checks
    { copy := faultedCopy (if word0.readable then asRead.generation else 65535#16) word0.readable
        (owed.getD .empty) source owed.isNone,
      becameFaulted := true, corrected := corrected, dirty := true, repair := true }
  else
    { copy := asRead, becameFaulted := false, corrected := corrected, dirty := touched, repair := touched }

end Sys2Proof.Machine
end

