-- ==== Sys2Proof/Machine/Ops.lean ====
section
/-! DEFINITION. The named operations over the state that several events share. -/

namespace Sys2Proof.Machine

/-- An event taken while the RESET pin is asserted has no effect: the device is held at its reset values (R172,
log 20). -/
def whileRunning (s t : State) : Host.Outcome State Fault Refusal := .next (if s.resetPin then s else t)

/-- As `whileRunning`, for the completion of a transaction of record `number`: its words must exist (section 12.5). -/
def completing (number : Nat) (s t : State) : Host.Outcome State Fault Refusal :=
  if s.resetPin then .next s
  else if number < Config.maxRecords then .next t else .fault (.noSuchRecordMemory number)

/-! ### Counters -/

/-- A record counter plus one, saturating (R11). -/
def satInc (c : RecordCounter) : RecordCounter := if c = 4294967295#32 then c else c + 1

/-- One more discard of a reason (R133). -/
def PortCounters.bump (p : PortCounters) : Discard → PortCounters
  | .header => { p with header := p.header + 1 }
  | .noRule => { p with noRule := p.noRule + 1 }
  | .unadmitted => { p with unadmitted := p.unadmitted + 1 }
  | .mismatch => { p with mismatch := p.mismatch + 1 }
  | .missOverflow => { p with missOverflow := p.missOverflow + 1 }
  | .state => { p with stateDiscards := p.stateDiscards + 1 }
  | .excess => { p with excess := p.excess + 1 }
  | .fault => { p with fault := p.fault + 1 }

/-- One more emission under a disposition (R130). -/
def PortCounters.bumpEmitted (p : PortCounters) : Disposition → PortCounters
  | .pass => { p with emitted := p.emitted + 1, passed := p.passed + 1 }
  | .mark => { p with emitted := p.emitted + 1, marked := p.marked + 1 }
  | .unpoliced => { p with emitted := p.emitted + 1, unpoliced := p.unpoliced + 1 }

/-- Give a cell the disposition DISCARDED: its reason is counted and it is inside no longer (R133). -/
def discardCell (s : State) (reason : Discard) : State :=
  { s with ports := s.ports.bump reason, cellsInside := s.cellsInside - 1 }

/-- Fill a place at the tail of the Egress FIFO's order (R129). -/
def fillPlace (s : State) (c : Cell) (d : Disposition) : State :=
  { s with egress := s.egress ++ [⟨c, d⟩] }

/-- One more hit (R86). -/
def countHit (s : State) : State := { s with stats := { s.stats with hits := s.stats.hits + 1 } }

/-- Count what a read found (R86, R90, R92). -/
def countRead (s : State) (f : Formed) : State :=
  { s with
    stats :=
      { s.stats with
        correctedErrors := s.stats.correctedErrors + BitVec.ofNat 48 f.corrected
        uncorrectableErrors := s.stats.uncorrectableErrors + (if f.becameFaulted then 1 else 0) } }

/-! ### Lines, entries, map -/

/-- Put line `i`. -/
def State.setLine (s : State) (i : Fin 64) (l : Line) : State := { s with lines := s.lines.set i.val l i.isLt }

/-- The entry that names a record. -/
def findEntry (t : List Entry) (number : Nat) : Option Entry := t.find? fun e => e.number == number

/-- Change the entry that names a record, or free it where `f` gives none. -/
def updateEntry (t : List Entry) (number : Nat) (f : Entry → Option Entry) : List Entry :=
  match t with
  | [] => []
  | e :: rest =>
    if e.number = number then
      match f e with
      | some e' => e' :: rest
      | none => rest
    else e :: updateEntry rest number f

/-- Put a waiter at the end of an entry's list (R75). -/
def joinEntry (t : List Entry) (number : Nat) (w : Waiter) : List Entry :=
  updateEntry t number fun e => some { e with waiters := e.waiters ++ [w] }

/-- Take the head waiter off an entry; the entry is freed when its list is then empty (R74). -/
def popWaiter (t : List Entry) (number : Nat) : List Entry :=
  updateEntry t number fun e => if e.waiters.tail.isEmpty then none else some { e with waiters := e.waiters.tail }

/-- Set a record's Occupancy Map entry (R18). -/
def occSet : List Nat → Nat → List Nat
  | [], n => [n]
  | m :: t, n => if n < m then n :: m :: t else if n = m then m :: t else m :: occSet t n

/-- Clear a record's Occupancy Map entry (R18). -/
def occClear (o : List Nat) (n : Nat) : List Nat := o.filter fun m => m != n

/-- A record's Occupancy Map entry is set. -/
def occupied (s : State) (n : Nat) : Bool := s.occupancy.contains n

/-! ### Notices (R119) -/

/-- A kind is in the owed set. -/
def OwedSet.has (o : OwedSet) : OwedKind → Bool
  | .expired => o.expired
  | .idle => o.idle
  | .alert => o.alert
  | .faulted => o.faulted

/-- The owed set with a kind added; a kind already owed absorbs it (R12). -/
def OwedSet.add (o : OwedSet) : OwedKind → OwedSet
  | .expired => { o with expired := true }
  | .idle => { o with idle := true }
  | .alert => { o with alert := true }
  | .faulted => { o with faulted := true }

/-- The owed set without a kind. -/
def OwedSet.remove (o : OwedSet) : OwedKind → OwedSet
  | .expired => { o with expired := false }
  | .idle => { o with idle := false }
  | .alert => { o with alert := false }
  | .faulted => { o with faulted := false }

/-- Put a notice at the tail of the queue (R118). -/
def pushNotice (s : State) (n : Notice) : State := { s with notices := s.notices ++ [n] }

/-- Offer a notice of an owed kind about the record whose current copy is `r`: it enters the queue, or its kind is owed
on the record and the owed-record count follows (R119, R13). -/
def offerNotice (s : State) (r : Record) (kind : OwedKind) (n : Notice) : State × Record :=
  if noticeRoom s then (pushNotice s n, r)
  else
    ({ s with owedCount := if r.owed.isEmpty then s.owedCount + 1 else s.owedCount },
      { r with owed := r.owed.add kind })

/-- The owed-record count when a record's owed set is emptied (R13). -/
def countEmptied (s : State) (r : Record) : State :=
  { s with owedCount := if r.owed.isEmpty then s.owedCount else s.owedCount - 1 }

/-- What a notice carries when an owed kind is moved into the queue (R120). The detail of an ALERT moved off a FAULTED
record, whose excess discarded counter carries no meaning (R16, R92), is the 0 of `faultedCopy`: the model's choice
(log 35). -/
def owedBody (r : Record) : OwedKind → NoticeBody
  | .expired => .expired
  | .idle => .idle
  | .alert => .alert r.excessDiscarded
  | .faulted => .faulted r.faultSource r.owedLost

/-! ### Commands (R136) -/

/-- The idle Maintenance Engine takes the oldest queued command: it becomes current (R136). -/
def takeNext (s : State) : State :=
  match s.engine, s.cmdQueue with
  | .idle, c :: rest => { s with engine := .checking c, cmdQueue := rest }
  | _, _ => s

/-- The command completes: its response enters the response queue, and the oldest queued command becomes current
(R136). -/
def complete (s : State) (c : Command) (outcome : OutcomeCode) (payload : List Byte) : State :=
  takeNext { s with responses := s.responses ++ [⟨c.tag, c.code, outcome, payload⟩], engine := .idle }

/-- A response without payload (R138). -/
def answer (s : State) (c : Command) (outcome : OutcomeCode) : State := complete s c outcome []

/-! ### Record memory -/

/-- Write a record's copy to its image (R89). -/
def writeImage (s : State) (number : Nat) (r : Record) : State :=
  { s with memory := s.memory.writeWords (16 * number) (encodeImage r) }

/-- The read of a record's image completes: the damage it finds is in the memory, its words are checked and the copy
is formed, and what was found is counted (R90 to R93, R86). -/
def readImage (s : State) (number : Nat) (source : FaultSource) (vacant : Bool) (damage : Damage) : State × Formed :=
  let memory := s.memory.addDamage number damage
  let f := formCopy source vacant s.freeIndex (memory.checkImage number)
  (countRead { s with memory := memory, freeIndex := s.freeIndex + 1 } f, f)

/-- The FAULTED notice of a read that made a record FAULTED, offered before anything else is done with the copy (R94).
-/
def offerFaulted (s : State) (number : Nat) (f : Formed) : State × Record :=
  if f.becameFaulted then
    offerNotice s f.copy .faulted
      ⟨.faulted f.copy.faultSource f.copy.owedLost, number, f.copy.generation, s.now⟩
  else (s, f.copy)

/-- The image that a write in flight carries: the record's number and the copy written (R89). -/
def writeInFlight (s : State) : Txn → Option (Nat × Record)
  | .writeBack i =>
    match lineAt s.lines i with
    | .evicting old copy _ => some (old, copy)
    | .valid n copy _ _ _ => some (n, copy)
    | _ => none
  | .sweepWrite n =>
    match s.hold with
    | .writing _ copy => some (n, copy)
    | _ => none
  | .formatWrite n => some (n, Record.blank)
  | .resumeWrite n copy => some (n, copy)
  | _ => none

/-- Queue a cache request (R83). -/
def requestCache (s : State) (q : List CacheReq) : State := { s with cacheQ := s.cacheQ ++ q }

/-! ### Reset (R172) -/

/-- Every block at its reset value. The queue of waiting events is not the device's; the record memory keeps what it
holds (R88); the free values used stay used. -/
def resetDevice (s : State) (asserted linkWaits : Bool) : State :=
  { State.reset with
    pending := s.pending, memory := s.memory, freeIndex := s.freeIndex, resetPin := asserted, linkWaits := linkWaits }

end Sys2Proof.Machine
end

