-- ==== Sys2Proof/Machine/Evaluation.lean ====
section
/-! DEFINITION. Conformance Evaluation: the refresh and the ten steps of a cell's evaluation
(02_conformance_evaluation.md). -/

namespace Sys2Proof.Machine

/-- The record's standing credit at `now`: the product and the sum are formed in full (R5, R27). -/
def Record.standingCredit (r : Record) (now : Tick) : Nat :=
  min r.depth.toNat (r.budget.toNat + (now - r.lastUpdate).toNat * r.sustainedRate.toNat)

/-- The refresh (R27). -/
def Record.refresh (r : Record) (now : Tick) : Record :=
  { r with budget := BitVec.ofNat 32 (r.standingCredit now), lastUpdate := now }

/-- The expiry is present and reached: a plain 48-bit comparison (R7, R32). -/
def Record.expiryReached (r : Record) (now : Tick) : Bool :=
  match r.expiry with
  | none => false
  | some e => decide (e.toNat ≤ now.toNat)

/-- The record is neither VACANT nor FAULTED. -/
def Record.admitted (r : Record) : Bool :=
  match r.state with
  | .vacant => false
  | .active => true
  | .held => true
  | .expired => true
  | .faulted => false

/-- The minimum spacing: 0 when the tolerance is equal to or greater than the interval (R34). -/
def Record.minimumSpacing (r : Record) : Nat := r.peakInterval.toNat - r.peakTolerance.toNat

/-- Step 6: the peak check (R34). -/
def Record.violatesPeak (r : Record) (now : Tick) : Bool :=
  match r.lastConform with
  | none => false
  | some last => r.peakInterval != 0 && decide ((now - last).toNat < r.minimumSpacing)

/-- Step 7: the sustained check, on the refreshed budget (R35). -/
def Record.violatesSustained (r : Record) : Bool := decide (r.budget.toNat < Config.cellCost)

/-- What an evaluation gives the cell (R40). -/
inductive Verdict where
  | pass
  | mark
  | discard (reason : Discard)
  deriving DecidableEq, Repr

/-- What one evaluation comes to: the record it leaves, the cell's fate, whether it went past step 2 and so leaves the
line dirty (R28, log 32), and the notice it raises with the kind that is owed if there is no room (R41). -/
structure Judged where
  copy : Record
  verdict : Verdict
  touched : Bool
  notice : Option (OwedKind × NoticeBody)
  deriving DecidableEq, Repr

/-- Step 8, no violation (R36). -/
def Record.passCell (r : Record) (now : Tick) : Record :=
  { r with budget := r.budget - 4096#32, lastConform := some now, passed := satInc r.passed }

/-- Step 8, a violation: code 0 is MARK; 1 is DISCARD (R37, R183; the codes that name no action: log 22). -/
def Record.applyAction (r : Record) (action : BitVec 2) : Record × Verdict :=
  if action = 0 then ({ r with marked := satInc r.marked }, .mark)
  else ({ r with excessDiscarded := satInc r.excessDiscarded }, .discard .excess)

/-- Step 8 on a refreshed record: the peak action where the cell violates peak, else the sustained action where it
violates sustained, else PASS (R34 to R37). -/
def Record.decideOutcome (r : Record) (now : Tick) : Record × Verdict :=
  if r.violatesPeak now then r.applyAction r.peakAction
  else if r.violatesSustained then r.applyAction r.sustainedAction
  else (r.passCell now, .pass)

/-- Step 10: the alert is due (R39). -/
def Record.alertDue (r : Record) : Bool :=
  match r.alertThreshold with
  | none => false
  | some t => !r.alertFired && decide (t.toNat ≤ r.excessDiscarded.toNat)

/-- Steps 5 to 10 of an ACTIVE record's evaluation (R33 to R39). -/
def judgeContract (r : Record) (now : Tick) : Judged :=
  let out := (r.refresh now).decideOutcome now
  let seen := { out.1 with lastSeen := now, idleReported := false }
  if seen.alertDue then
    ⟨{ seen with alertFired := true }, out.2, true, some (.alert, .alert seen.excessDiscarded)⟩
  else ⟨seen, out.2, true, none⟩

/-- Steps 3 and 4: the record counts the cell as state discarded (R31, R32). -/
def Record.discardState (r : Record) (now : Tick) : Record :=
  { r with stateDiscarded := satInc r.stateDiscarded, lastSeen := now }

/-- The evaluation of a cell with label `label` against record `r` at `now` (section 2.3). -/
def evaluate (r : Record) (label : BitVec 24) (now : Tick) : Judged :=
  match r.state with
  | .vacant => ⟨r, .discard .unadmitted, false, none⟩
  | .faulted => ⟨r, .discard .fault, false, none⟩
  | .held =>
    if label = r.label then ⟨r.discardState now, .discard .state, true, none⟩
    else ⟨r, .discard .mismatch, false, none⟩
  | .expired =>
    if label = r.label then ⟨r.discardState now, .discard .state, true, none⟩
    else ⟨r, .discard .mismatch, false, none⟩
  | .active =>
    if label = r.label then
      if r.expiryReached now then
        ⟨{ r with state := .expired }.discardState now, .discard .state, true, some (.expired, .expired)⟩
      else judgeContract r now
    else ⟨r, .discard .mismatch, false, none⟩

/-- The notice an evaluation raises is offered within its claim (R41). -/
def offerJudged (s : State) (number : Nat) (j : Judged) : State × Record :=
  match j.notice with
  | none => (s, j.copy)
  | some (kind, body) => offerNotice s j.copy kind ⟨body, number, j.copy.generation, s.now⟩

/-- The end of an evaluation: the cell fills its place, its header changed where it is given MARK, or the place is
returned and the discard counted (R28, R40, R131). -/
def settleCell (s : State) (c : Cell) : Verdict → State
  | .pass => fillPlace s c .pass
  | .mark => fillPlace s (markCell c) .mark
  | .discard reason => discardCell s reason

/-- A cell's evaluation as one claim on VALID line `i`, which holds copy `r` of record `number` with these flags
(R28, R63). -/
def claimCell (s : State) (i : Fin 64) (number : Nat) (r : Record) (dirty pinned : Bool) (c : Cell) : State :=
  let j := evaluate r (cellLabel c) s.now
  let p := offerJudged s number j
  settleCell (p.1.setLine i (.valid number p.2 (dirty || j.touched) true pinned)) c j.verdict

end Sys2Proof.Machine
end

