-- ==== Sys2Proof/Machine/Operands.lean ====
section
/-! DEFINITION. Operand forms: the parameters of every command, the payload of every response, and the frames of the
management link (R181, R182). -/

namespace Sys2Proof.Machine

/-! ### Command codes (R181) -/

abbrev codeSetup : Byte := 0x10#8
abbrev codeFormat : Byte := 0x11#8
abbrev codeResume : Byte := 0x12#8
abbrev codeRestart : Byte := 0x13#8
abbrev codeStatus : Byte := 0x14#8
abbrev codeRuleWrite : Byte := 0x20#8
abbrev codeRuleRead : Byte := 0x21#8
abbrev codeAdmit : Byte := 0x30#8
abbrev codeAmend : Byte := 0x31#8
abbrev codeHold : Byte := 0x32#8
abbrev codeRelease : Byte := 0x33#8
abbrev codeRetire : Byte := 0x34#8
abbrev codeQuery : Byte := 0x35#8
abbrev codePin : Byte := 0x36#8
abbrev codeUnpin : Byte := 0x37#8

/-- The fifteen command codes with the parameter length each requires (R161, R181). -/
def codeTable : List (Byte × Nat) :=
  [(codeSetup, 10), (codeFormat, 0), (codeResume, 0), (codeRestart, 0), (codeStatus, 0), (codeRuleWrite, 14),
    (codeRuleRead, 1), (codeAdmit, 31), (codeAmend, 40), (codeHold, 4), (codeRelease, 4), (codeRetire, 4),
    (codeQuery, 3), (codePin, 4), (codeUnpin, 4)]

/-- The parameter length a code requires, where it is a command code. -/
def requiredLength (code : Byte) : Option Nat := codeTable.lookup code

/-! ### Codes of the other frames (R182) -/

/-- The policy a code names (R181). -/
def Policy.ofCode (b : Byte) : Option Policy :=
  if b = 0 then some .discard else if b = 1 then some .pass else none

/-- A policy's code (R181). -/
def Policy.code : Policy → Byte
  | .discard => 0
  | .pass => 1

/-- An outcome's code. -/
def OutcomeCode.code : OutcomeCode → Byte
  | .ok => 0x00#8
  | .wrongState => 0x01#8
  | .badRecord => 0x02#8
  | .stale => 0x03#8
  | .notVacant => 0x04#8
  | .isVacant => 0x05#8
  | .recordState => 0x06#8
  | .guarded => 0x07#8
  | .badField => 0x08#8
  | .mapMismatch => 0x09#8
  | .pinLimit => 0x0A#8
  | .faulted => 0x0B#8
  | .badSetup => 0x0C#8

/-- An acceptance code; 00h is none, in LINK-STATUS alone. -/
def acceptanceCode : Option Acceptance → Byte
  | none => 0x00#8
  | some .accepted => 0x01#8
  | some .full => 0x02#8
  | some .checkError => 0x03#8
  | some .lengthError => 0x04#8
  | some .unknownCode => 0x05#8
  | some .tagInUse => 0x06#8

/-- A device state's code. -/
def DeviceState.code : DeviceState → Byte
  | .config => 0x00#8
  | .formatting => 0x01#8
  | .resuming => 0x02#8
  | .running => 0x03#8
  | .restarting => 0x04#8

/-- A notice kind's code. -/
def NoticeBody.code : NoticeBody → Byte
  | .expired => 0x01#8
  | .idle => 0x02#8
  | .idleRetired _ => 0x03#8
  | .alert _ => 0x04#8
  | .faulted _ _ => 0x05#8

/-- A notice's detail as the 32-bit value of its frame (R117, R182). The bits that the layout does not name are 0, the
model's choice (log 36). -/
def NoticeBody.detail : NoticeBody → BitVec 32
  | .expired => 0
  | .idle => 0
  | .idleRetired dropped => dropped.bits.setWidth 32
  | .alert count => count
  | .faulted source lost => 0#29 ++ BitVec.ofBool lost ++ source.code

/-! ### Frames the part drives (R160, R164 to R166, R182) -/

/-- A response frame: length, tag, code, outcome, payload, check. -/
def responseFrame (r : Response) : List Byte :=
  withCheck (BitVec.ofNat 8 r.payload.length :: r.tag :: r.code :: r.outcome.code :: r.payload)

/-- A notice frame: kind, record number, generation, tick raised, detail, check. -/
def noticeFrame (n : Notice) : List Byte :=
  withCheck (n.body.code :: (beBytes 2 n.number ++ beBytes 2 n.generation.toNat ++ beBytes 6 n.tick.toNat ++
    beBytes 4 n.body.detail.toNat))

/-- The six status bytes of LINK-STATUS and their check (R166). -/
def statusFrame (s : State) : List Byte :=
  withCheck
    [s.device.code, BitVec.ofNat 8 (outstanding s), BitVec.ofNat 8 s.responses.length,
      BitVec.ofNat 8 s.notices.length, flagByte [decide (s.owedCount ≠ 0)], acceptanceCode s.lastAcceptance]

/-- What the part drives in a read that took `count` at the end of the kind byte: 00h, the count byte, and the head
frame where the count is not 0 (R159, R164). -/
def readBytes (count : Nat) (frame : List Byte) : List Byte :=
  0#8 :: BitVec.ofNat 8 count :: (if count = 0 then [] else frame)

/-! ### Parameters -/

/-- The record number of a record command (R181). -/
def paramRecord (c : Command) : Nat := (field16 c.params 0).toNat

/-- The generation of a command that carries one (R181). -/
def paramGeneration (c : Command) : BitVec 16 := field16 c.params 2

/-- The SETUP parameters a frame gives, where both policy codes name a policy (R181). -/
def paramSetup (c : Command) : Option SetupParams :=
  match Policy.ofCode (byteAt c.params 8), Policy.ofCode (byteAt c.params 9) with
  | some unadmitted, some overflow =>
    some
      { capacity := (field16 c.params 0).toNat, tickPeriod := (field16 c.params 2).toNat,
        sweepInterval := (field16 c.params 4).toNat, guard := (field16 c.params 6).toNat, unadmitted := unadmitted,
        overflow := overflow }
  | _, _ => none

/-- The rule number of RULE-WRITE and RULE-READ. -/
def paramRuleNumber (c : Command) : Nat := (byteAt c.params 0).toNat

/-- The rule RULE-WRITE gives. -/
def paramRule (c : Command) : Rule :=
  { enable := (byteAt c.params 1).getLsbD 0, matchLabel := field24 c.params 2, maskLabel := field24 c.params 5,
    fieldPosition := (byteAt c.params 8).toNat, fieldWidth := (byteAt c.params 9).toNat,
    recordBase := (field16 c.params 10).toNat, rangeLength := (field16 c.params 12).toNat }

/-- The RULE-READ payload: the layout of the RULE-WRITE parameters. -/
def rulePayload (number : Nat) (r : Rule) : List Byte :=
  BitVec.ofNat 8 number :: flagByte [r.enable] ::
    (beBytes 3 r.matchLabel.toNat ++ beBytes 3 r.maskLabel.toNat ++ beBytes 1 r.fieldPosition ++
      beBytes 1 r.fieldWidth ++ beBytes 2 r.recordBase ++ beBytes 2 r.rangeLength)

/-- A contract block or value block as it stands in the frame (R181); the action codes are its nibbles. -/
structure Block where
  sustainedRate : BitVec 16
  depth : BitVec 32
  peakInterval : BitVec 16
  peakTolerance : BitVec 16
  peakAction : BitVec 4
  sustainedAction : BitVec 4
  /-- the presence byte of ADMIT, the auto-retire byte of AMEND -/
  presence : Byte
  expiry : Tick
  idleLimit : BitVec 32
  alertThreshold : BitVec 32
  deriving DecidableEq, Repr

/-- The block at place `i` of the parameters. -/
def paramBlock (p : List Byte) (i : Nat) : Block :=
  { sustainedRate := field16 p i, depth := field32 p (i + 2), peakInterval := field16 p (i + 6),
    peakTolerance := field16 p (i + 8), peakAction := (byteAt p (i + 10)).extractLsb' 4 4,
    sustainedAction := (byteAt p (i + 10)).extractLsb' 0 4, presence := byteAt p (i + 11),
    expiry := field48 p (i + 12), idleLimit := field32 p (i + 18), alertThreshold := field32 p (i + 22) }

/-- The label an ADMIT gives. -/
def paramLabel (c : Command) : BitVec 24 := field24 c.params 2

/-- The contract block of an ADMIT. -/
def admitBlock (c : Command) : Block := paramBlock c.params 5

/-- ADMIT gives an expiry as present. -/
def Block.hasExpiry (b : Block) : Bool := b.presence.getLsbD 0
/-- ADMIT gives an idle limit as present. -/
def Block.hasIdleLimit (b : Block) : Bool := b.presence.getLsbD 1
/-- ADMIT gives auto-retire on idle as yes. -/
def Block.admitAutoRetire (b : Block) : Bool := b.presence.getLsbD 2
/-- ADMIT gives an alert threshold as present. -/
def Block.hasAlertThreshold (b : Block) : Bool := b.presence.getLsbD 3
/-- The auto-retire on idle value of an AMEND. -/
def Block.amendAutoRetire (b : Block) : Bool := b.presence.getLsbD 0

/-- The fields of R147 that ADMIT refuses BAD_FIELD at stage 3. -/
def admitBadField (isGuarded : Bool) (b : Block) : Bool :=
  decide (b.depth.toNat < 4096) || decide (1 < b.peakAction.toNat) || decide (1 < b.sustainedAction.toNat) ||
    (b.hasIdleLimit && b.idleLimit == 0) || (b.hasAlertThreshold && b.alertThreshold == 0) ||
    (isGuarded && b.hasExpiry) || (isGuarded && b.admitAutoRetire)

/-- The record an ADMIT makes of a VACANT record: every field but the generation (R15, R148). R148 lists no value for
generation known, fault source and owed set lost: no, none and no are the model's choice (log 33). -/
def admittedRecord (r : Record) (label : BitVec 24) (b : Block) (now : Tick) : Record :=
  { state := .active
    generation := r.generation
    generationKnown := false
    faultSource := .none
    owedLost := false
    owed := .empty
    label := label
    sustainedRate := b.sustainedRate
    depth := b.depth
    peakInterval := b.peakInterval
    peakTolerance := b.peakTolerance
    peakAction := b.peakAction.setWidth 2
    sustainedAction := b.sustainedAction.setWidth 2
    budget := b.depth
    lastUpdate := now
    lastConform := none
    lastSeen := now
    expiry := if b.hasExpiry then some b.expiry else none
    idleLimit := if b.hasIdleLimit then some b.idleLimit else none
    autoRetire := b.admitAutoRetire
    alertThreshold := if b.hasAlertThreshold then some b.alertThreshold else none
    alertFired := false
    idleReported := false
    passed := 0
    marked := 0
    excessDiscarded := 0
    stateDiscarded := 0 }

/-- The ten selections of an AMEND, in the order of R181. -/
structure Selections where
  sustainedRate : Byte
  depth : Byte
  peakInterval : Byte
  peakTolerance : Byte
  peakAction : Byte
  sustainedAction : Byte
  expiry : Byte
  idleLimit : Byte
  autoRetire : Byte
  alertThreshold : Byte
  deriving DecidableEq, Repr

/-- The selection bytes of an AMEND. -/
def amendSelections (c : Command) : Selections :=
  let b (i : Nat) := byteAt c.params (4 + i)
  ⟨b 0, b 1, b 2, b 3, b 4, b 5, b 6, b 7, b 8, b 9⟩

/-- The value block of an AMEND. -/
def amendBlock (c : Command) : Block := paramBlock c.params 14

/-- A selection code the fields without an absent value allow: leave or set (R149). -/
def selectionOk (x : Byte) : Bool := decide (x.toNat ≤ 1)

/-- A selection code the optional parts allow: leave, set or remove (R149). -/
def optionalSelectionOk (x : Byte) : Bool := decide (x.toNat ≤ 2)

/-- The field is set by this selection. -/
def selects (x : Byte) : Bool := x == 1#8

/-- The fields of R149 that AMEND refuses BAD_FIELD at stage 3. -/
def amendBadField (isGuarded : Bool) (x : Selections) (b : Block) : Bool :=
  (selects x.depth && decide (b.depth.toNat < 4096)) || (selects x.peakAction && decide (1 < b.peakAction.toNat)) ||
    (selects x.sustainedAction && decide (1 < b.sustainedAction.toNat)) ||
    (selects x.idleLimit && b.idleLimit == 0) || (selects x.alertThreshold && b.alertThreshold == 0) ||
    !(selectionOk x.sustainedRate && selectionOk x.depth && selectionOk x.peakInterval &&
      selectionOk x.peakTolerance && selectionOk x.peakAction && selectionOk x.sustainedAction &&
      optionalSelectionOk x.expiry && optionalSelectionOk x.idleLimit && selectionOk x.autoRetire &&
      optionalSelectionOk x.alertThreshold) ||
    (isGuarded && selects x.expiry) || (isGuarded && selects x.autoRetire && b.amendAutoRetire)

/-- A field that a selection leaves or sets. -/
def amendField {α : Type} (x : Byte) (new old : α) : α := if selects x then new else old

/-- An optional part that a selection leaves, sets or removes. -/
def amendPart {α : Type} (x : Byte) (new : α) (old : Option α) : Option α :=
  if x = 1#8 then some new else if x = 2#8 then none else old

/-- Steps 1 to 5 of an AMEND's claim, and the state it settles (R149, R150). -/
def amendedRecord (r : Record) (x : Selections) (b : Block) (now : Tick) : Record :=
  let r1 := r.refresh now
  let depth := amendField x.depth b.depth r1.depth
  { r1 with
    state := if r.state == .expired && (x.expiry == 1#8 || x.expiry == 2#8) then .active else r.state
    sustainedRate := amendField x.sustainedRate b.sustainedRate r1.sustainedRate
    depth := depth
    peakInterval := amendField x.peakInterval b.peakInterval r1.peakInterval
    peakTolerance := amendField x.peakTolerance b.peakTolerance r1.peakTolerance
    peakAction := amendField x.peakAction (b.peakAction.setWidth 2) r1.peakAction
    sustainedAction := amendField x.sustainedAction (b.sustainedAction.setWidth 2) r1.sustainedAction
    expiry := amendPart x.expiry b.expiry r1.expiry
    idleLimit := amendPart x.idleLimit b.idleLimit r1.idleLimit
    autoRetire := amendField x.autoRetire b.amendAutoRetire r1.autoRetire
    alertThreshold := amendPart x.alertThreshold b.alertThreshold r1.alertThreshold
    budget := if selects x.depth && decide (depth.toNat < r1.budget.toNat) then depth else r1.budget
    idleReported := if x.idleLimit = 1#8 ∨ x.idleLimit = 2#8 then false else r1.idleReported
    alertFired := if x.alertThreshold = 1#8 ∨ x.alertThreshold = 2#8 then false else r1.alertFired }

/-- QUERY's clear option. -/
def queryClears (c : Command) : Bool := (byteAt c.params 2).getLsbD 0

/-! ### Payloads -/

/-- A record state's code in a payload byte. -/
def stateByte (st : RecState) : Byte := st.code.setWidth 8

/-- An owed set in a payload byte (R182); bits 7 to 4, which the layout does not name, are 0 (log 36). -/
def owedByte (o : OwedSet) : Byte := o.bits.setWidth 8

/-- The value of an optional part: 0 where it is absent (R182). -/
def optBytes {w : Nat} (n : Nat) (x : Option (BitVec w)) : List Byte :=
  beBytes n (match x with
    | none => 0
    | some v => v.toNat)

/-- The record summary of an AMEND response (R150). -/
def summaryPayload (r : Record) : List Byte :=
  stateByte r.state ::
    (beBytes 2 r.generation.toNat ++ beBytes 4 r.budget.toNat ++ beBytes 4 r.depth.toNat ++
      beBytes 6 r.lastUpdate.toNat ++ [flagByte [r.expiry.isSome]] ++ optBytes 6 r.expiry)

/-- The four counters. -/
def counterBytes (a b c d : RecordCounter) : List Byte :=
  beBytes 4 a.toNat ++ beBytes 4 b.toNat ++ beBytes 4 c.toNat ++ beBytes 4 d.toNat

/-- The RETIRE payload: the counters, the owed kinds dropped, the new generation (R153, R154). -/
def retirePayload (counters : List Byte) (dropped : OwedSet) (generation : BitVec 16) : List Byte :=
  counters ++ [owedByte dropped] ++ beBytes 2 generation.toNat

/-- The items a QUERY reports of the contract, the dynamic fields and the counters of an admitted record (R155). -/
def queryItems (r : Record) : List Byte :=
  beBytes 3 r.label.toNat ++ beBytes 2 r.sustainedRate.toNat ++ beBytes 4 r.depth.toNat ++
    beBytes 2 r.peakInterval.toNat ++ beBytes 2 r.peakTolerance.toNat ++
    [(0#2 ++ r.peakAction ++ 0#2 ++ r.sustainedAction : BitVec 8)] ++
    [flagByte [r.expiry.isSome, r.idleLimit.isSome, r.autoRetire, r.alertThreshold.isSome, r.lastConform.isSome]] ++
    optBytes 6 r.expiry ++ optBytes 4 r.idleLimit ++ optBytes 4 r.alertThreshold ++ beBytes 4 r.budget.toNat ++
    beBytes 6 r.lastUpdate.toNat ++ optBytes 6 r.lastConform ++ beBytes 6 r.lastSeen.toNat ++
    counterBytes r.passed r.marked r.excessDiscarded r.stateDiscarded

/-- The QUERY report (R155, R182). An item that carries no meaning in the record's state is sent as 0. -/
def queryPayload (r : Record) (resident pinned isGuarded : Bool) : List Byte :=
  let isFaulted := r.state == .faulted
  stateByte r.state :: (beBytes 2 r.generation.toNat ++
    [flagByte
      [!isFaulted || r.generationKnown, r.admitted && r.alertFired, r.admitted && r.idleReported, resident, pinned,
        isGuarded, isFaulted && r.owedLost],
      if isFaulted then r.faultSource.code.setWidth 8 else 0#8,
      if r.state == .vacant then 0#8 else owedByte r.owed] ++
    (if r.admitted then queryItems r else List.replicate 67 0#8))

/-- The thirteen device disposition counters in the order of R133, 6 bytes each. -/
def portBytes (p : PortCounters) : List Byte :=
  [p.accepted, p.emitted, p.passed, p.marked, p.unpoliced, p.header, p.noRule, p.unadmitted, p.mismatch,
    p.missOverflow, p.stateDiscards, p.excess, p.fault].flatMap fun c => beBytes 6 c.toNat

/-- The Record Store's counters, 6 bytes each (R146). -/
def storeBytes (c : StoreCounters) : List Byte :=
  [c.hits, c.misses, c.dirtyWriteBacks, c.correctedErrors, c.uncorrectableErrors].flatMap fun c => beBytes 6 c.toNat

/-- The STATUS payload (R146, R182). -/
def statusPayload (s : State) : List Byte :=
  s.device.code :: flagByte [s.preserved.isSome] ::
    (beBytes 6 s.now.toNat ++ beBytes 2 s.setup.capacity ++ beBytes 2 s.setup.tickPeriod ++
      beBytes 2 s.setup.sweepInterval ++ beBytes 2 s.setup.guard ++
      [s.setup.unadmitted.code, s.setup.overflow.code] ++ portBytes s.ports ++ beBytes 1 s.cellsInside ++
      storeBytes s.stats ++ beBytes 1 (pinnedCount s) ++ beBytes 2 s.owedCount ++ beBytes 1 s.notices.length)

/-- The RESUME payload: the five counts (R144). -/
def countsPayload (c : StateCounts) : List Byte :=
  beBytes 2 c.vacant ++ beBytes 2 c.active ++ beBytes 2 c.held ++ beBytes 2 c.expired ++ beBytes 2 c.faulted

end Sys2Proof.Machine
end

