-- ==== Sys2Proof/Machine/DeviceCommands.lean ====
section
/-! DEFINITION. The commands that name no record: SETUP, FORMAT, RESUME, RESTART, STATUS, RULE_WRITE, RULE_READ
(sections 9.2 and 3.4). -/

namespace Sys2Proof.Machine

/-- The end of the checking condition of the current command, where its code is `code` (R136, log 3). -/
def onCurrent (s : State) (code : Byte) (effect : Command → State) : Host.Outcome State Fault Refusal :=
  whileRunning s
    (match s.engine with
    | .checking c => if c.code = code then effect c else s
    | _ => s)

/-- The constraints on a SETUP's values (R142). -/
def setupAllowed (s : State) (p : SetupParams) : Bool :=
  (p.capacity == 4096 || p.capacity == 8192 || p.capacity == 16384) &&
    decide (1 ≤ p.tickPeriod) && decide (p.tickPeriod ≤ 1000) && decide (1 ≤ p.sweepInterval) &&
    decide (p.sweepInterval ≤ 65535) && decide (p.guard ≤ p.capacity) &&
    (match s.preserved with
    | none => true
    | some v => p.capacity == v.capacity && p.tickPeriod == v.tickPeriod && p.guard == v.guard) &&
    s.rules.toList.all fun r => decide (r.recordBase + r.rangeLength ≤ p.capacity)

/-- SETUP's checks and effect (R142, R116). -/
def setupEffect (s : State) (c : Command) : State :=
  if s.device = .config then
    match paramSetup c with
    | none => answer s c .badSetup
    | some p =>
      if setupAllowed s p then answer { s with setup := p, sweepPos := p.capacity - 1 } c .ok
      else answer s c .badSetup
  else answer s c .wrongState

/-- SETUP (R142). -/
def execSetup (s : State) : Host.Outcome State Fault Refusal := onCurrent s codeSetup (setupEffect s)

/-- FORMAT's start (R143, R175). -/
def formatEffect (s : State) (c : Command) : State :=
  if s.device = .config then { s with device := .formatting, pass := .format 0, engine := .inOperation c }
  else answer s c .wrongState

/-- FORMAT (R143). -/
def execFormat (s : State) : Host.Outcome State Fault Refusal := onCurrent s codeFormat (formatEffect s)

/-- RESUME's start: the counts and the owed-record count are set to 0 (R99, R144, R176). -/
def resumeEffect (s : State) (c : Command) : State :=
  if s.device = .config ∧ s.preserved.isSome then
    { s with
      device := .resuming, pass := .resume 0 ⟨0, 0, 0, 0, 0⟩ [], owedCount := 0, engine := .inOperation c }
  else answer s c .wrongState

/-- RESUME (R144). -/
def execResume (s : State) : Host.Outcome State Fault Refusal := onCurrent s codeResume (resumeEffect s)

/-- RESTART's beginning: the ingress closes with the device state, and a remembered step is forgotten (R145, R177). -/
def restartEffect (s : State) (c : Command) : State :=
  if s.device = .running then
    { s with device := .restarting, restart := .draining, remembered := false, engine := .inOperation c }
  else answer s c .wrongState

/-- RESTART (R145). -/
def execRestart (s : State) : Host.Outcome State Fault Refusal := onCurrent s codeRestart (restartEffect s)

/-- The device state allows the commands taken in CONFIG and in RUNNING (R137). -/
def configOrRunning (s : State) : Bool := s.device == .config || s.device == .running

/-- STATUS reads its values at one step (R146). -/
def statusEffect (s : State) (c : Command) : State :=
  if configOrRunning s then complete s c .ok (statusPayload s) else answer s c .wrongState

/-- STATUS (R146). -/
def execStatus (s : State) : Host.Outcome State Fault Refusal := onCurrent s codeStatus (statusEffect s)

/-- The limits of R54 on a rule. -/
def ruleAllowed (s : State) (r : Rule) : Bool :=
  decide (r.fieldPosition ≤ 23) && decide (r.fieldWidth ≤ 14) && decide (r.recordBase ≤ 16383) &&
    decide (1 ≤ r.rangeLength) && decide (r.rangeLength ≤ 16384) && decide (r.fieldPosition + r.fieldWidth ≤ 24) &&
    decide (r.recordBase + r.rangeLength ≤ s.setup.capacity)

/-- RULE-WRITE's checks and effect (R54, R55). -/
def ruleWriteEffect (s : State) (c : Command) : State :=
  if configOrRunning s then
    if h : paramRuleNumber c < 16 then
      if ruleAllowed s (paramRule c) then
        answer { s with rules := s.rules.set (paramRuleNumber c) (paramRule c) h } c .ok
      else answer s c .badField
    else answer s c .badField
  else answer s c .wrongState

/-- RULE_WRITE (R54). -/
def execRuleWrite (s : State) : Host.Outcome State Fault Refusal := onCurrent s codeRuleWrite (ruleWriteEffect s)

/-- RULE-READ's checks and report (R59). -/
def ruleReadEffect (s : State) (c : Command) : State :=
  if configOrRunning s then
    if h : paramRuleNumber c < 16 then
      complete s c .ok (rulePayload (paramRuleNumber c) (s.rules[paramRuleNumber c]'h))
    else answer s c .badField
  else answer s c .wrongState

/-- RULE_READ (R59). -/
def execRuleRead (s : State) : Host.Outcome State Fault Refusal := onCurrent s codeRuleRead (ruleReadEffect s)

end Sys2Proof.Machine
end

