-- ==== Sys2Proof/Machine/Reads.lean ====
section
/-! DEFINITION. The reads of the management link: the count byte, the bytes driven, and the removal of the head (R121,
R164, R165). RESPONSE_READ and NOTICE_READ are made of them, and so is a NOTICE-READ that completes within a visit
(R119). -/

namespace Sys2Proof.Machine

/-- A link transaction ends: no later one takes its count byte before this moment (R159, log 15). -/
def linkEnded (s : State) : State :=
  { s with responsesAtEnd := s.responses.length, noticesAtEnd := s.notices.length }

/-- The count byte of a read: the number of members its queue held at the end of the kind byte, `entered` having joined
since. None where the queue was never so short since the last transaction ended, `atEnd` being its length then: heads
leave only at link transactions, so it has only grown (R164, R165, log 15). -/
def countTaken (atEnd length entered : Nat) : Option Nat :=
  if atEnd + entered ≤ length then some (length - entered) else none

/-- The bytes of a whole RESPONSE-READ with this count (R164). -/
def responseBytes (s : State) (count : Nat) : List Byte :=
  readBytes count ((s.responses.head?.map responseFrame).getD [])

/-- The bytes of a whole NOTICE-READ with this count (R165). -/
def noticeBytes (s : State) (count : Nat) : List Byte := readBytes count ((s.notices.head?.map noticeFrame).getD [])

/-- A RESPONSE-READ completes: with a count of 0 it removes nothing, otherwise the head response leaves; `more` bytes
behind its defined end are driven as 00h (R159, R164). -/
def readResponse (s : State) (entered more : Nat) : State :=
  match countTaken s.responsesAtEnd s.responses.length entered with
  | none => s
  | some count =>
    linkEnded
      { s with
        responses := if count = 0 then s.responses else s.responses.tail
        linkOut := responseBytes s count ++ List.replicate more 0#8 }

/-- A NOTICE-READ completes, in the same way (R121, R159, R165). -/
def readNotice (s : State) (entered more : Nat) : State :=
  match countTaken s.noticesAtEnd s.notices.length entered with
  | none => s
  | some count =>
    linkEnded
      { s with
        notices := if count = 0 then s.notices else s.notices.tail
        linkOut := noticeBytes s count ++ List.replicate more 0#8 }

/-- The NOTICE-READ, if any, that completes at one place within a visit (R119); a link that waits for chip-select to
rise takes none (R159). -/
def readWithin (s : State) : Option ReadWithin → State
  | none => s
  | some r => if s.linkWaits then s else readNotice s r.entered r.more

end Sys2Proof.Machine
end

