-- ==== Sys2Proof/Machine/Link.lean ====
section
/-! DEFINITION. The management link: COMMAND, RESPONSE_READ, NOTICE_READ, LINK_STATUS, VOID_TRANSACTION,
TRANSACTION_ABANDON (10_the_management_link.md). -/

namespace Sys2Proof.Machine

/-- A transaction is taken unless the RESET pin is asserted or the link waits for chip-select to rise (R159). -/
def onLink (s t : State) : Host.Outcome State Fault Refusal := .next (if s.resetPin || s.linkWaits then s else t)

/-- The acceptance decision: the five checks in their order (R161). -/
def acceptance (s : State) (tag code : Byte) (params : List Byte) (check : BitVec 16) : Acceptance :=
  if crc16 (BitVec.ofNat 8 params.length :: tag :: code :: params) ≠ check then .checkError
  else if 60 < params.length then .lengthError
  else
    match requiredLength code with
    | none => .unknownCode
    | some n =>
      if params.length ≠ n then .lengthError
      else if (tagsInUse s).contains tag then .tagInUse
      else if Config.outstandingLimit ≤ outstanding s then .full
      else .accepted

/-- An accepted command joins the command queue; an idle Maintenance Engine takes it (R136, R163). -/
def acceptCommand (s : State) (c : Command) : State := takeNext { s with cmdQueue := s.cmdQueue ++ [c] }

/-- COMMAND: the end of the second check byte (R160). The part drives 00h up to there, then, as far as the host clocks
on, the acceptance code and 00h (R159, R160). A frame of more than 255 parameters cannot be sent (R160). -/
def execCommand (tag code : Byte) (params : List Byte) (check : BitVec 16) (s : State) (more : Nat := 0) :
    Host.Outcome State Fault Refusal :=
  onLink s
    (if 255 < params.length then s
    else
      let result := acceptance s tag code params check
      let behind := (acceptanceCode (some result) :: List.replicate (more - 1) 0#8).take more
      let t :=
        linkEnded
          { s with
            lastAcceptance := some result
            linkOut := List.replicate (params.length + 6) 0#8 ++ behind }
      if result = .accepted then acceptCommand t ⟨tag, code, params⟩ else t)

/-- RESPONSE_READ, completed (R164). -/
def execResponseRead (entered : Nat) (s : State) (more : Nat := 0) : Host.Outcome State Fault Refusal :=
  onLink s (readResponse s entered more)

/-- NOTICE_READ, completed (R121, R165). -/
def execNoticeRead (entered : Nat) (s : State) (more : Nat := 0) : Host.Outcome State Fault Refusal :=
  onLink s (readNotice s entered more)

/-- The bytes of a whole LINK-STATUS (R166). -/
def statusBytes (s : State) : List Byte := 0#8 :: statusFrame s

/-- LINK_STATUS: the values are reported and nothing changes (R166). -/
def execLinkStatus (s : State) (more : Nat := 0) : Host.Outcome State Fault Refusal :=
  onLink s (linkEnded { s with linkOut := statusBytes s ++ List.replicate more 0#8 })

/-- VOID_TRANSACTION: the part drives 00h and changes no state (R159). -/
def execVoidTransaction (first : Byte) (more : Nat) (s : State) : Host.Outcome State Fault Refusal :=
  onLink s
    (if (LinkKind.ofCode first).isSome then s else linkEnded { s with linkOut := List.replicate (more + 1) 0#8 })

/-- The first `clocked` bytes of a transaction that ended before the last of them (R159). -/
def cutBytes (clocked : Nat) (whole : List Byte) : Option (List Byte) :=
  if 0 < clocked ∧ clocked < whole.length then some (whole.take clocked) else none

/-- What the part drove in a transaction that chip-select ended before its defined end; none where no transaction can
have ended so (R159, R160, R164 to R166). A COMMAND's frame has at most 261 bytes. -/
def abandonedBytes (s : State) : Abandoned → Option (List Byte)
  | .unnamed => some []
  | .command clocked => cutBytes clocked (List.replicate 261 0#8)
  | .responseRead entered clocked =>
    (countTaken s.responsesAtEnd s.responses.length entered).bind fun count => cutBytes clocked (responseBytes s count)
  | .noticeRead entered clocked =>
    (countTaken s.noticesAtEnd s.notices.length entered).bind fun count => cutBytes clocked (noticeBytes s count)
  | .linkStatus clocked => cutBytes clocked (statusBytes s)

/-- TRANSACTION_ABANDON: chip-select rises before the transaction's defined end; the transaction has no effect
(R159). A link that waited for that rise waits no longer. -/
def execTransactionAbandon (what : Abandoned) (s : State) : Host.Outcome State Fault Refusal :=
  .next
    (if s.resetPin then s
    else if s.linkWaits then linkEnded { s with linkWaits := false }
    else
      match abandonedBytes s what with
      | none => s
      | some bytes => linkEnded { s with linkOut := bytes })

/-! ### The bytes of a transaction (R159, R160, R181) -/

/-- A read of `whole` bytes of which the host clocked `clocked`: abandoned, or completed with bytes behind it. -/
def readEvent (clocked : Nat) (whole : List Byte) (abandon : Abandoned) (completed : Nat → Instr) : Instr :=
  if clocked < whole.length then .transactionAbandon abandon else completed (clocked - whole.length)

/-- A COMMAND transaction by the bytes behind its kind byte: abandoned before the end of the second check byte, or
decided there (R160). -/
def commandEvent (sent : List Byte) : Instr :=
  match sent with
  | length :: tag :: code :: rest =>
    let n := length.toNat
    if n + 2 ≤ rest.length then .command tag code (rest.take n) (field16 rest n) (rest.length - (n + 2))
    else .transactionAbandon (.command (sent.length + 1))
  | _ => .transactionAbandon (.command (sent.length + 1))

/-- The event that the bytes the host clocked between a fall of chip-select and its rise come to: the first names the
kind (R159, R181). `entered`: members that joined the queue of a read after the kind byte's end (log 15). -/
def transactionEvent (s : State) (sent : List Byte) (entered : Nat) : Instr :=
  match sent with
  | [] => .transactionAbandon .unnamed
  | first :: rest =>
    match LinkKind.ofCode first with
    | none => .voidTransaction first rest.length
    | some .command => commandEvent rest
    | some .responseRead =>
      readEvent sent.length (responseBytes s (s.responses.length - entered)) (.responseRead entered sent.length)
        fun more => .responseRead entered more
    | some .noticeRead =>
      readEvent sent.length (noticeBytes s (s.notices.length - entered)) (.noticeRead entered sent.length)
        fun more => .noticeRead entered more
    | some .linkStatus =>
      readEvent sent.length (statusBytes s) (.linkStatus sent.length) fun more => .linkStatus more

end Sys2Proof.Machine
end

