-- ==== Sys2Proof/Machine/Visit.lean ====
section
/-! DEFINITION. The visit actions of the Sweep Unit on one copy at one now (section 6.5). A visit makes its offers one
after another, and a NOTICE-READ may complete between any two of them (R119). -/

namespace Sys2Proof.Machine

/-- Move owed kinds into the queue in the order given, each offered after the NOTICE-READ that completes before its
offer; a kind that is not owed is not offered. As soon as a kind owed finds no room the moving stops (R114, R119, R120).
A kind owed at this same visit, or held back by an idle retirement that found no room, is moved with the others where a
NOTICE-READ has made room since (the model's choice, log 37). -/
def moveKinds (number : Nat) : List (OwedKind × Option ReadWithin) → State × Record → State × Record
  | [], p => p
  | (kind, read) :: rest, p =>
    if p.2.owed.has kind then
      let s := readWithin p.1 read
      if noticeRoom s then
        moveKinds number rest
          (pushNotice s ⟨owedBody p.2 kind, number, p.2.generation, s.now⟩,
            { p.2 with owed := p.2.owed.remove kind })
      else (s, p.2)
    else moveKinds number rest p

/-- The owed kinds in the order of R114, each with the NOTICE-READ before its move. -/
def movesWith (during : VisitEvents) : List (OwedKind × Option ReadWithin) :=
  [(.expired, during.owedExpired), (.idle, during.owedIdle), (.alert, during.owedAlert), (.faulted, during.owedFaulted)]

/-- Move the owed kinds while there is room; the owed-record count falls when the set becomes empty (R114, R13). -/
def moveOwed (during : VisitEvents) (s : State) (number : Nat) (r : Record) : State × Record :=
  let p := moveKinds number (movesWith during) (s, r)
  (if !r.owed.isEmpty && p.2.owed.isEmpty then { p.1 with owedCount := p.1.owedCount - 1 } else p.1, p.2)

/-- The expiry action of a visit: an ACTIVE or HELD record whose expiry is reached becomes EXPIRED and an EXPIRED
notice is offered (R111). -/
def visitExpiry (s : State) (number : Nat) (r : Record) : State × Record :=
  if (r.state == .active || r.state == .held) && r.expiryReached s.now then
    offerNotice s { r with state := .expired } .expired ⟨.expired, number, r.generation, s.now⟩
  else (s, r)

/-- The record is idle at a visit (R112). -/
def Record.isIdle (r : Record) (now : Tick) : Bool :=
  match r.idleLimit with
  | none => false
  | some limit => r.state == .active && decide (limit.toNat ≤ (now - r.lastSeen).toNat) && !r.idleReported

/-- The record a retirement of an admitted record leaves: VACANT, its generation advanced, nothing owed (R113, R153).
-/
def Record.retired (r : Record) : Record :=
  { r with state := .vacant, generation := r.generation + 1, owed := .empty }

/-- What a retirement changes beside the record: the owed-record count and the Occupancy Map (R113, R153, R154). -/
def endAdmission (s : State) (number : Nat) (r : Record) : State :=
  { countEmptied s r with occupancy := occClear s.occupancy number }

/-- The idle action of a visit: an IDLE notice and idle reported, or the retirement where the queue has room
(R112, R113). `read`: the NOTICE-READ that completes before the offer (R119). -/
def visitIdle (read : Option ReadWithin) (s : State) (number : Nat) (r : Record) : State × Record :=
  if r.isIdle s.now then
    let s := readWithin s read
    if r.autoRetire then
      if noticeRoom s then
        (endAdmission (pushNotice s ⟨.idleRetired r.owed, number, r.generation, s.now⟩) number r, r.retired)
      else (s, r)
    else
      let p := offerNotice s r .idle ⟨.idle, number, r.generation, s.now⟩
      (p.1, { p.2 with idleReported := true })
  else (s, r)

/-- The visit actions on the current copy `r` of record `number`, with the NOTICE-READs that complete between their
offers (R110, R119). A NOTICE-READ named before an offer that the visit does not make does not fall within it. The moving
follows a refused idle retirement too, and finds no room unless a NOTICE-READ has made some: that it then moves is the
model's choice (R113, log 37). -/
def visitActions (during : VisitEvents) (s : State) (number : Nat) (r : Record) : State × Record :=
  match r.state with
  | .vacant => (s, r)
  | .faulted => moveOwed during s number r
  | _ =>
    let p := visitExpiry s number (r.refresh s.now)
    let q := visitIdle during.idle p.1 number p.2
    moveOwed during q.1 number q.2

end Sys2Proof.Machine
end

