-- ==== Sys2Proof/Machine/Claims.lean ====
section
/-! DEFINITION. The claims of record commands: stage 4 of their checks and their effect within one claim (R138 to R141,
sections 9.3 to 9.8). -/

namespace Sys2Proof.Machine

/-- What a claim meets: the record, the line's pinned flag, whether the record step found the record resident (R155),
and whether the command waited on the entry whose own fill made the record FAULTED (R95). -/
structure Met where
  number : Nat
  copy : Record
  pinned : Bool
  resident : Bool
  metFault : Bool
  deriving DecidableEq, Repr

/-- What a claim leaves: the record, the line's pinned flag, the outcome and its payload; the rest of the state. -/
structure Claimed where
  state : State
  copy : Record
  pinned : Bool
  outcome : OutcomeCode
  payload : List Byte
  deriving DecidableEq, Repr

/-- A command refused at stage 4, or one that completes and changes nothing. -/
def Met.unchanged (m : Met) (s : State) (outcome : OutcomeCode) : Claimed := ⟨s, m.copy, m.pinned, outcome, []⟩

/-- A command that changes the record's state alone (R151, R152). -/
def Met.withState (m : Met) (s : State) (st : RecState) : Claimed :=
  ⟨s, { m.copy with state := st }, m.pinned, .ok, []⟩

/-- A QUERY's or a RETIRE's FAULTED record is decided by its own rule; every other command that met the fault of its
own entry's fill is answered FAULTED (R95, R140). -/
def isFaulted (m : Met) : Bool := m.metFault || m.copy.state == .faulted

/-- ADMIT's claim (R148). -/
def claimAdmit (s : State) (m : Met) (c : Command) : Claimed :=
  if isFaulted m then m.unchanged s .faulted
  else if m.copy.state != .vacant then m.unchanged s .notVacant
  else if (admitBlock c).hasExpiry && decide ((admitBlock c).expiry.toNat ≤ s.now.toNat) then
    m.unchanged s .badField
  else
    ⟨{ s with occupancy := occSet s.occupancy m.number },
      admittedRecord m.copy (paramLabel c) (admitBlock c) s.now, m.pinned, .ok, beBytes 2 m.copy.generation.toNat⟩

/-- AMEND's claim (R149, R150). -/
def claimAmend (s : State) (m : Met) (c : Command) : Claimed :=
  if isFaulted m then m.unchanged s .faulted
  else if paramGeneration c != m.copy.generation then m.unchanged s .stale
  else if m.copy.state == .vacant then m.unchanged s .isVacant
  else if (amendSelections c).expiry == 1#8 && decide ((amendBlock c).expiry.toNat ≤ s.now.toNat) then
    m.unchanged s .badField
  else
    let r := amendedRecord m.copy (amendSelections c) (amendBlock c) s.now
    ⟨s, r, m.pinned, .ok, summaryPayload r⟩

/-- HOLD's claim (R151). -/
def claimHold (s : State) (m : Met) (c : Command) : Claimed :=
  if isFaulted m then m.unchanged s .faulted
  else if paramGeneration c != m.copy.generation then m.unchanged s .stale
  else
    match m.copy.state with
    | .active => m.withState s .held
    | .held => m.unchanged s .ok
    | .expired => m.unchanged s .recordState
    | .vacant => m.unchanged s .isVacant
    | .faulted => m.unchanged s .faulted

/-- RELEASE's claim (R152). -/
def claimRelease (s : State) (m : Met) (c : Command) : Claimed :=
  if isFaulted m then m.unchanged s .faulted
  else if paramGeneration c != m.copy.generation then m.unchanged s .stale
  else
    match m.copy.state with
    | .active => m.unchanged s .ok
    | .held => m.withState s .active
    | .expired => m.unchanged s .recordState
    | .vacant => m.unchanged s .isVacant
    | .faulted => m.unchanged s .faulted

/-- The VACANT record a RETIRE makes of a FAULTED one (R154). -/
def Record.retiredFaulted (r : Record) : Record :=
  { r with
    state := .vacant, generation := 0, generationKnown := false, faultSource := .none, owedLost := false,
    owed := .empty }

/-- RETIRE's claim (R153, R154). -/
def claimRetire (s : State) (m : Met) (c : Command) : Claimed :=
  if m.copy.state == .faulted then
    ⟨endAdmission s m.number m.copy, m.copy.retiredFaulted, false, .ok,
      retirePayload (counterBytes 0 0 0 0) m.copy.owed 0⟩
  else if paramGeneration c != m.copy.generation then m.unchanged s .stale
  else if m.copy.state == .vacant then m.unchanged s .isVacant
  else
    ⟨endAdmission s m.number m.copy, m.copy.retired, false, .ok,
      retirePayload (counterBytes m.copy.passed m.copy.marked m.copy.excessDiscarded m.copy.stateDiscarded)
        m.copy.owed (m.copy.generation + 1)⟩

/-- The record with its counters at 0 and its alert armed (R9, R11, R155). -/
def Record.cleared (r : Record) : Record :=
  { r with passed := 0, marked := 0, excessDiscarded := 0, stateDiscarded := 0, alertFired := false }

/-- QUERY's claim (R155). -/
def claimQuery (s : State) (m : Met) (c : Command) : Claimed :=
  let r := if m.copy.admitted then m.copy.refresh s.now else m.copy
  ⟨s, if queryClears c && r.admitted then r.cleared else r, m.pinned, .ok,
    queryPayload r m.resident m.pinned (guarded s m.number)⟩

/-- PIN's claim (R69, R140, R156). -/
def claimPin (s : State) (m : Met) (c : Command) : Claimed :=
  if m.metFault then m.unchanged s .faulted
  else if paramGeneration c != m.copy.generation then m.unchanged s .stale
  else if m.copy.state == .vacant then m.unchanged s .isVacant
  else if m.pinned then m.unchanged s .ok
  else if pinnedCount s < Config.pinLimit then ⟨s, m.copy, true, .ok, []⟩
  else m.unchanged s .pinLimit

/-- UNPIN's claim (R69, R140, R157). -/
def claimUnpin (s : State) (m : Met) (c : Command) : Claimed :=
  if m.metFault then m.unchanged s .faulted
  else if paramGeneration c != m.copy.generation then m.unchanged s .stale
  else if m.copy.state == .vacant then m.unchanged s .isVacant
  else ⟨s, m.copy, false, .ok, []⟩

/-- The claim of the record command with code `c.code`. The codes of other commands reach no record; a state in which
one waits for a claim is reached by no run, and the claim then changes nothing. -/
def claimOf (s : State) (m : Met) (c : Command) : Claimed :=
  if c.code = codeAdmit then claimAdmit s m c
  else if c.code = codeAmend then claimAmend s m c
  else if c.code = codeHold then claimHold s m c
  else if c.code = codeRelease then claimRelease s m c
  else if c.code = codeRetire then claimRetire s m c
  else if c.code = codeQuery then claimQuery s m c
  else if c.code = codePin then claimPin s m c
  else if c.code = codeUnpin then claimUnpin s m c
  else m.unchanged s .ok

/-- A command's claim on VALID line `i`: the record and the pinned flag it leaves go into the line, referenced is set,
dirty is set where a field changed, and the command completes (R63, R139). -/
def claimCommand (s : State) (i : Fin 64) (m : Met) (dirty : Bool) (c : Command) : State :=
  let k := claimOf s m c
  complete (k.state.setLine i (.valid m.number k.copy (dirty || k.copy != m.copy) true k.pinned)) c k.outcome
    k.payload

end Sys2Proof.Machine
end

