-- ==== Sys2Proof/Machine/Store.lean ====
section
/-! DEFINITION. The Record Store: a record's standing, victim selection, Miss Table entries, the answer to each
requester, and the serving of waiters (04_the_record_cache_and_miss_table.md). -/

namespace Sys2Proof.Machine

/-- Line `i` is the target line of an entry (R61). -/
def isTarget (t : List Entry) (i : Fin 64) : Bool := t.any fun e => e.target == i

/-- The line is VALID and holds the record. -/
def Line.holds (l : Line) (n : Nat) : Bool :=
  match l with
  | .valid m _ _ _ _ => m == n
  | _ => false

/-- The line is EVICTING and its old record is this one. -/
def Line.evicts (l : Line) (n : Nat) : Bool :=
  match l with
  | .evicting m _ _ => m == n
  | _ => false

/-- Where a record stands (R66). -/
inductive Standing where
  | named
  | resident (line : Fin 64)
  | evicting
  | held
  | absent
  deriving DecidableEq, Repr

/-- The line of which the record is the occupant (R61). -/
def residentLine (s : State) (n : Nat) : Option (Fin 64) :=
  (List.finRange 64).find? fun i => (lineAt s.lines i).holds n && !isTarget s.missTable i

/-- A record's standing: the first that applies (R66). -/
def standing (s : State) (n : Nat) : Standing :=
  if (findEntry s.missTable n).isSome then .named
  else
    match residentLine s n with
    | some i => .resident i
    | none =>
      if s.lines.toList.any fun l => l.evicts n then .evicting
      else if s.hold.number == some n then .held
      else .absent

/-! ### Victim selection (R67) -/

/-- The line after `i`, line 63 being followed by line 0. -/
def nextLine (i : Fin 64) : Fin 64 := i + 1

/-- The lowest-numbered EMPTY line. -/
def emptyLine (ls : Vector Line 64) : Option (Fin 64) := (List.finRange 64).find? fun i => (lineAt ls i).isEmpty

/-- The second-chance scan from line `i` on, over at most `fuel` lines: the line chosen, and the lines with the
referenced flags cleared on the way. -/
def scan (t : List Entry) : Nat → Fin 64 → Vector Line 64 → Option (Fin 64 × Vector Line 64)
  | 0, _, _ => none
  | fuel + 1, i, ls =>
    match lineAt ls i with
    | .valid n r d referenced pinned =>
      if pinned || isTarget t i then scan t fuel (nextLine i) ls
      else if referenced then scan t fuel (nextLine i) (ls.set i.val (.valid n r d false pinned) i.isLt)
      else some (i, ls)
    | _ => scan t fuel (nextLine i) ls

/-- What victim selection comes to: the target line, the lines, the hand, and the write-back it requests. -/
structure Victim where
  target : Fin 64
  lines : Vector Line 64
  hand : Fin 64
  request : List CacheReq
  deriving DecidableEq, Repr

/-- Victim selection for an entry of record `n`. A scan passes over no line more than twice (R68); where it chooses
none, which the law of R68 rules out, the answer is none (log 21). -/
def selectVictim (s : State) (n : Nat) : Option Victim :=
  match emptyLine s.lines with
  | some i => some ⟨i, s.lines.set i.val (.filling n) i.isLt, s.hand, []⟩
  | none =>
    match scan s.missTable 128 s.hand s.lines with
    | none => none
    | some (i, ls) =>
      match lineAt ls i with
      | .valid old r true _ _ =>
        some ⟨i, ls.set i.val (.evicting old r n) i.isLt, nextLine i, [.writeBack i]⟩
      | _ => some ⟨i, ls.set i.val (.filling n) i.isLt, nextLine i, []⟩

/-! ### Opening an entry (R71, R72) -/

/-- An entry's fill read may be requested: its phase is READING and its target line FILLING (R72). -/
def Entry.ready (ls : Vector Line 64) (e : Entry) : Bool := e.phase == .reading && (lineAt ls e.target).isFilling

/-- Open an entry for record `n` with its first waiter (R71). -/
def openEntry (s : State) (n : Nat) (phase : Phase) (w : Waiter) : Option State :=
  match selectVictim s n with
  | none => none
  | some v =>
    let e : Entry := { number := n, phase := phase, target := v.target, fillDone := false, waiters := [w] }
    some
      { s with
        lines := v.lines
        hand := v.hand
        missTable := s.missTable ++ [e]
        cacheQ := s.cacheQ ++ v.request ++ (if e.ready v.lines then [.fill n] else [])
        stats := { s.stats with misses := s.stats.misses + 1 } }

/-- The phase an entry opened at a standing takes (R71). -/
def Standing.phase : Standing → Phase
  | .evicting => .waitEvict
  | .held => .waitSweep
  | _ => .reading

/-- The entry a requester opens, where the Miss Table has room (R71, R76). -/
def tryOpen (s : State) (n : Nat) (w : Waiter) : Option State :=
  if s.missTable.length < Config.missEntries then openEntry s n (standing s n).phase w else none

/-- The fill reads that a change of entries and lines makes ready, in the order of opening (R72). -/
def newlyReady (before after : State) : List CacheReq :=
  ((before.missTable.zip after.missTable).filter fun p =>
    p.2.ready after.lines && !p.1.ready before.lines).map fun p => .fill p.2.number

/-- Request the fill reads that became ready since `before` (R72, R84, R109). -/
def requestReady (before after : State) : State := requestCache after (newlyReady before after)

/-- Every entry that names record `n` in phase `ph` moves to READING (R72). -/
def advancePhase (t : List Entry) (n : Nat) (ph : Phase) : List Entry :=
  t.map fun e => if e.number = n ∧ e.phase = ph then { e with phase := .reading } else e

/-! ### The answer to a cell (R66, R75, R79, R80, R81) -/

/-- The cell is disposed of under the miss overflow policy (R80). -/
def overflowCell (s : State) (c : Cell) (n : Nat) : State :=
  match s.setup.overflow with
  | .discard => discardCell { s with stage := none } .missOverflow
  | .pass => { s with stage := some (.unpoliced c (some n)) }

/-- The Pending Cell Store has a free slot (R78). -/
def slotFree (s : State) : Bool := decide (pendingTaken s < Config.pendingSlots)

/-- Offer the cell in the classification stage, with its record number, to the Record Store (R66). -/
def offerCell (s : State) (c : Cell) (n : Nat) : State :=
  match standing s n with
  | .named =>
    if slotFree s then { s with missTable := joinEntry s.missTable n (.cell c), stage := none }
    else discardCell { s with stage := none } .missOverflow
  | .resident _ => { s with stage := some (.direct c n) }
  | _ =>
    if slotFree s then
      match tryOpen s n (.cell c) with
      | some t => { t with stage := none }
      | none => overflowCell s c n
    else overflowCell s c n

/-! ### Serving waiters (R74) -/

/-- A command step at the head of the entry of record `n` has its claim taken at once (R74). -/
def serveCommand (s : State) (n : Nat) : State :=
  match findEntry s.missTable n with
  | none => s
  | some e =>
    match e.waiters, lineAt s.lines e.target, s.engine with
    | .command metFault :: _, .valid m r d _ pinned, .waitingOnEntry c =>
      claimCommand { s with missTable := popWaiter s.missTable n } e.target ⟨m, r, pinned, false, metFault⟩ d c
    | _, _, _ => s

/-- The head waiting cell of the entry of record `n` is given a place: its evaluation is taken, its slot is freed, and
a command step behind it is served (R74). -/
def serveCell (s : State) (n : Nat) : State :=
  match findEntry s.missTable n with
  | none => s
  | some e =>
    match e.fillDone, e.waiters, lineAt s.lines e.target with
    | true, .cell c :: _, .valid m r d _ pinned =>
      serveCommand (claimCell { s with missTable := popWaiter s.missTable n } e.target m r d pinned c) n
    | _, _, _ => s

/-! ### The answer to a command step (R66, R75, R76, R139) -/

/-- The record step of the current command `c` on record `n`: a claim at once, a place on an entry, or a wait. -/
def recordStep (s : State) (c : Command) (n : Nat) : State :=
  match standing s n with
  | .named => { s with missTable := joinEntry s.missTable n (.command false), engine := .waitingOnEntry c }
  | .resident i =>
    match lineAt s.lines i with
    | .valid m r d _ pinned => claimCommand (countHit s) i ⟨m, r, pinned, true, false⟩ d c
    | _ => s
  | _ =>
    match tryOpen s n (.command false) with
    | some t => { t with engine := .waitingOnEntry c }
    | none => { s with engine := .waitingForEntry c }

end Sys2Proof.Machine
end

