-- ==== Sys2Proof/Machine/Ports.lean ====
section
/-! DEFINITION. The cell path: INGRESS_TRANSFER_BEGIN, PARTIAL_CELL_DROPPED, CELL_ACCEPT, INGRESS_HEAD_LEAVES,
EGRESS_PLACE_GRANT, CELL_EMIT (03_the_label_map.md, 08_cell_ports.md). -/

namespace Sys2Proof.Machine

/-! ### The Label Map (R48 to R50) -/

/-- A rule matches a label (R48). -/
def Rule.matches (r : Rule) (label : BitVec 24) : Bool :=
  r.enable && (label &&& r.maskLabel == r.matchLabel &&& r.maskLabel)

/-- The index a rule gives a label (R49). -/
def Rule.index (r : Rule) (label : BitVec 24) : Nat := label.toNat / 2 ^ r.fieldPosition % 2 ^ r.fieldWidth

/-- The record number a rule maps a label to, if it does (R49). -/
def Rule.maps (r : Rule) (label : BitVec 24) : Option Nat :=
  if r.matches label && decide (r.index label < r.rangeLength) then some (r.recordBase + r.index label) else none

/-- The record number of a label: the first rule that matches and maps it (R50, R58). -/
def mapLabel (rules : Vector Rule 16) (label : BitVec 24) : Option Nat :=
  rules.toList.findSome? fun r => r.maps label

/-- A cell the Label Map disposes of under the unadmitted policy (R53). -/
def unadmittedCell (s : State) (c : Cell) (reason : Discard) (number : Option Nat) : State :=
  match s.setup.unadmitted with
  | .discard => discardCell s reason
  | .pass => { s with stage := some (.unpoliced c number) }

/-- A cell with a good header check is classified and disposed of or offered (R50, R52). -/
def classifyCell (s : State) (c : Cell) : State :=
  match mapLabel s.rules (cellLabel c) with
  | none => unadmittedCell s c .noRule none
  | some n => if occupied s n then offerCell s c n else unadmittedCell s c .unadmitted (some n)

/-- The head cell has left the Ingress FIFO (R128). -/
def headLeft (s : State) (c : Cell) : State :=
  if headerGood c then classifyCell s c else discardCell s .header

/-- The classification stage works in RUNNING and RESTARTING (R51). -/
def classifying (s : State) : Bool := s.device == .running || s.device == .restarting

/-! ### The events -/

/-- INGRESS_TRANSFER_BEGIN: a start-of-cell byte. A transfer in progress is dropped; a new one begins if ingress-ready
is asserted (R126). -/
def execIngressTransferBegin (first : Byte) (s : State) : Host.Outcome State Fault Refusal :=
  whileRunning s { s with transfer := if ingressReady s then some first else none }

/-- PARTIAL_CELL_DROPPED: a start-of-cell byte arrives before the 64th byte of the cell in transfer. The partial cell is
dropped and its place freed; the byte begins a new transfer if ingress-ready is asserted at that moment (R126). With no
transfer in progress no cell is cut short (log 1). -/
def execPartialCellDropped (s : State) (first : Byte := 0) : Host.Outcome State Fault Refusal :=
  whileRunning s
    (match s.transfer with
    | none => s
    | some _ => { s with transfer := if ingressReady s then some first else none })

/-- CELL_ACCEPT: the 64th byte of the cell in transfer (R126, R133). -/
def execCellAccept (rest : Vector Byte 63) (s : State) : Host.Outcome State Fault Refusal :=
  whileRunning s
    (match s.transfer with
    | none => s
    | some first =>
      { s with
        transfer := none
        ingress := s.ingress ++ [cellOfTransfer first rest]
        ports := { s.ports with accepted := s.ports.accepted + 1 }
        cellsInside := s.cellsInside + 1 })

/-- INGRESS_HEAD_LEAVES: with the classification stage empty, the head cell leaves (R51, R128). -/
def execIngressHeadLeaves (s : State) : Host.Outcome State Fault Refusal :=
  whileRunning s
    (match classifying s, s.stage, s.ingress with
    | true, none, c :: rest => headLeft { s with ingress := rest } c
    | _, _, _ => s)

/-- The cell in the classification stage is given a place: an UNPOLICED cell fills it; a direct cell is evaluated if
its record is still resident, and is otherwise answered by the standing it now finds (R53, R80, R81). -/
def grantStage (s : State) : State :=
  match s.stage with
  | none => s
  | some (.unpoliced c _) => fillPlace { s with stage := none } c .unpoliced
  | some (.direct c n) =>
    match standing s n with
    | .resident i =>
      match lineAt s.lines i with
      | .valid m r d _ pinned => claimCell (countHit { s with stage := none }) i m r d pinned c
      | _ => s
    | _ => offerCell s c n

/-- EGRESS_PLACE_GRANT: a free place is given to a requester, which proceeds (R129). -/
def execEgressPlaceGrant (requester : Requester) (s : State) : Host.Outcome State Fault Refusal :=
  whileRunning s
    (if egressRoom s then
      match requester with
      | .stage => grantStage s
      | .entry n => serveCell s n
    else s)

/-- CELL_EMIT: the 64th byte of the head cell is sent (R130, R133). -/
def execCellEmit (s : State) : Host.Outcome State Fault Refusal :=
  whileRunning s
    (match s.egress with
    | [] => s
    | e :: rest =>
      { s with
        egress := rest
        ports := s.ports.bumpEmitted e.disposition
        cellsInside := s.cellsInside - 1
        egressOut := some e.cell })

end Sys2Proof.Machine
end

