-- ==== Sys2Proof/Machine/RecordCommands.lean ====
section
/-! DEFINITION. The record commands: stages 1 to 3 of their checks and their record step (R137 to R139); stage 4 and the
effect are their claims (Claims.lean). -/

namespace Sys2Proof.Machine

/-- A record command: stage 1 the device state, stage 2 the record number, stage 3 its own checks (`refusal`), then its
record step (R138, R139). -/
def recordCommand (s : State) (c : Command) (refusal : Option OutcomeCode) : State :=
  if s.device = .running then
    if paramRecord c < s.setup.capacity then
      match refusal with
      | some outcome => answer s c outcome
      | none => recordStep s c (paramRecord c)
    else answer s c .badRecord
  else answer s c .wrongState

/-- Stage 3 of ADMIT: its fields, then the Label Map lookup (R147, R58). -/
def admitRefusal (s : State) (c : Command) : Option OutcomeCode :=
  if admitBadField (guarded s (paramRecord c)) (admitBlock c) then some .badField
  else if mapLabel s.rules (paramLabel c) = some (paramRecord c) then none else some .mapMismatch

/-- Stage 3 of AMEND (R149). -/
def amendRefusal (s : State) (c : Command) : Option OutcomeCode :=
  if amendBadField (guarded s (paramRecord c)) (amendSelections c) (amendBlock c) then some .badField else none

/-- Stage 3 of HOLD and RETIRE (R21, R151, R153). -/
def guardRefusal (s : State) (c : Command) : Option OutcomeCode :=
  if guarded s (paramRecord c) then some .guarded else none

/-- Stage 3 of the record command `c`, by its code (R138). -/
def ownRefusal (s : State) (c : Command) : Option OutcomeCode :=
  if c.code = codeAdmit then admitRefusal s c
  else if c.code = codeAmend then amendRefusal s c
  else if c.code = codeHold ∨ c.code = codeRetire then guardRefusal s c
  else none

/-- The code of a record command (R139). -/
def isRecordCode (code : Byte) : Bool :=
  [codeAdmit, codeAmend, codeHold, codeRelease, codeRetire, codeQuery, codePin, codeUnpin].contains code

/-- ADMIT (R147, R148). -/
def execAdmit (s : State) : Host.Outcome State Fault Refusal :=
  onCurrent s codeAdmit fun c => recordCommand s c (admitRefusal s c)

/-- AMEND (R149, R150). -/
def execAmend (s : State) : Host.Outcome State Fault Refusal :=
  onCurrent s codeAmend fun c => recordCommand s c (amendRefusal s c)

/-- HOLD (R151). -/
def execHold (s : State) : Host.Outcome State Fault Refusal :=
  onCurrent s codeHold fun c => recordCommand s c (guardRefusal s c)

/-- RELEASE (R152). -/
def execRelease (s : State) : Host.Outcome State Fault Refusal :=
  onCurrent s codeRelease fun c => recordCommand s c none

/-- RETIRE (R153, R154). -/
def execRetire (s : State) : Host.Outcome State Fault Refusal :=
  onCurrent s codeRetire fun c => recordCommand s c (guardRefusal s c)

/-- QUERY (R155). -/
def execQuery (s : State) : Host.Outcome State Fault Refusal :=
  onCurrent s codeQuery fun c => recordCommand s c none

/-- PIN (R156). -/
def execPin (s : State) : Host.Outcome State Fault Refusal :=
  onCurrent s codePin fun c => recordCommand s c none

/-- UNPIN (R157). -/
def execUnpin (s : State) : Host.Outcome State Fault Refusal :=
  onCurrent s codeUnpin fun c => recordCommand s c none

/-- COMMAND_STEP_RETRY: a command step that waits for an entry is taken again and finds the record's standing afresh
(R76, log 26). -/
def execCommandStepRetry (s : State) : Host.Outcome State Fault Refusal :=
  whileRunning s
    (match s.engine with
    | .waitingForEntry c => recordStep s c (paramRecord c)
    | _ => s)

end Sys2Proof.Machine
end

