-- ==== Sys2Proof/Machine/Sweep.lean ====
section
/-! DEFINITION. The Sweep Unit's steps: the choice of a record, the placing of its visit, and the claims of commands that
fall between the two (sections 6.1 to 6.3, 6.6). -/

namespace Sys2Proof.Machine

/-! ### Claims of commands within a visit (R104, R107, R115) -/

/-- The Maintenance Engine waits for an entry or on one (R136). -/
def Engine.waits : Engine → Bool
  | .waitingForEntry _ => true
  | .waitingOnEntry _ => true
  | _ => false

/-- What the Maintenance Engine does next for a record: the checks and the record step of the record command at its
checks, or the record step that waits for an entry, taken again (R138, R76). -/
def engineStep (s : State) : State :=
  match s.engine with
  | .checking c => if isRecordCode c.code then recordCommand s c (ownRefusal s c) else s
  | .waitingForEntry c => recordStep s c (paramRecord c)
  | _ => s

/-- The claim that the Maintenance Engine takes next: the command completes at once. A command that has no claim at this
moment, because its record is not resident, changes nothing: what it does to the Record Store falls before the step's act
or after it (R105, log 34). -/
def engineClaim (s : State) : State := if (engineStep s).engine.waits then s else engineStep s

/-- As many claims of commands, one after the other, as fall between the step's reading of the Occupancy Map and the
visit's claim (R104, R107, R115). -/
def claimsWithin : Nat → State → State
  | 0, s => s
  | k + 1, s => claimsWithin k (engineClaim s)

/-! ### Sweep visits (R103 to R107) -/

/-- The next occupied record after a position, round the record numbers (R104). -/
def nextOccupied (occupancy : List Nat) (position : Nat) : Option Nat :=
  match (occupancy.filter fun n => decide (position < n)).min? with
  | some n => some n
  | none => occupancy.min?

/-- A visit as a claim on the line that holds the record (R107): referenced is left, dirty is set where a field
changed, and a retirement clears pinned (R113). -/
def visitLine (during : VisitEvents) (s : State) (i : Fin 64) : State :=
  match lineAt s.lines i with
  | .valid n r d referenced pinned =>
    let p := visitActions during s n r
    p.1.setLine i
      (.valid n p.2 (d || p.2 != r) referenced (pinned && (r.state == .vacant || p.2.state != .vacant)))
  | _ => s

/-- Choose the next occupied record and place its visit by its standing, found in the same act (R104 to R106, R108). The
claim of a visit to a resident record is taken after the claims that fall between (R104, R107, R115, log 34). -/
def beginVisit (during : VisitEvents) (s : State) : State :=
  match nextOccupied s.occupancy s.sweepPos with
  | none => s
  | some n =>
    let s := { s with sweepPos := n }
    match standing s n with
    | .named => s
    | .resident i => visitLine during (claimsWithin during.claims s) i
    | .evicting => s
    | .held => s
    | .absent => { s with hold := .reading n, sweepReq := some (.read n) }

/-- A sweep step: it begins a visit, or is remembered while one is in progress (R103). -/
def takeSweepStep (during : VisitEvents) (s : State) : State :=
  if visitInProgress s then { s with remembered := true } else beginVisit during s

/-- A sweep step is due: the interval count has reached the sweep interval in RUNNING (R102). -/
def stepDue (s : State) : Bool := s.device == .running && decide (s.setup.sweepInterval ≤ s.interval)

/-- The sweep step that is due is taken and the count returns to 0 (R102). -/
def takeDueStep (during : VisitEvents) (s : State) : State := takeSweepStep during { s with interval := 0 }

end Sys2Proof.Machine
end

