-- ==== Sys2Proof/Machine/MemoryEvents.lean ====
section
/-! DEFINITION. The memory path in RUNNING and RESTARTING: MEMORY_ISSUE, WRITE_BACK_COMPLETE, FILL_READ_COMPLETE,
SWEEP_READ_COMPLETE, SWEEP_WRITE_COMPLETE, RESTART_WRITE_BACK_REQUEST (sections 4.6 to 4.11, 5.4, 5.5, 6.4). -/

namespace Sys2Proof.Machine

/-- The transaction of a cache request. -/
def CacheReq.txn : CacheReq → Txn
  | .fill n => .fill n
  | .writeBack i => .writeBack i

/-- The transaction of a sweep request. -/
def SweepReq.txn : SweepReq → Txn
  | .read n => .sweepRead n
  | .write n => .sweepWrite n

/-- Put a transaction in flight behind those issued before it (R83). -/
def fly (s : State) (t : Txn) : State := { s with inFlight := s.inFlight ++ [t] }

/-- Issue the next request: the next cache request in order, or the waiting sweep request when no cache request waits
(R83); in a pass the pass's own, its writes ahead of its reads (R98, R100). -/
def issueNext (s : State) : State :=
  match s.pass with
  | .format next => if next < s.setup.capacity then fly { s with pass := .format (next + 1) } (.formatWrite next) else s
  | .resume next counts ((n, copy) :: writes) => fly { s with pass := .resume next counts writes } (.resumeWrite n copy)
  | .resume next counts [] =>
    if next < s.setup.capacity then fly { s with pass := .resume (next + 1) counts [] } (.resumeRead next) else s
  | .none =>
    match s.cacheQ with
    | r :: rest => fly { s with cacheQ := rest } r.txn
    | [] =>
      match s.sweepReq with
      | some r => fly { s with sweepReq := none } r.txn
      | none => s

/-- MEMORY_ISSUE: the arbiter issues a request whenever fewer than 4 transactions are in flight (R83). -/
def execMemoryIssue (s : State) : Host.Outcome State Fault Refusal :=
  whileRunning s (if s.inFlight.length < Config.flightLimit then issueNext s else s)

/-- One more dirty write-back (R84, R86). -/
def countWriteBack (s : State) : State :=
  { s with stats := { s.stats with dirtyWriteBacks := s.stats.dirtyWriteBacks + 1 } }

/-- Every line EMPTY: the end of the Record Store's part of RESTART (R87). -/
def emptyLines (s : State) (requested : Nat) : State :=
  { s with lines := Vector.replicate 64 .empty, restart := .emptied requested }

/-- A write-back of an EVICTING line completes (R84, R72). -/
def evictionWritten (s : State) (i : Fin 64) (old : Nat) (copy : Record) (reserved : Nat) : State :=
  let t := countWriteBack (writeImage s old copy)
  requestReady s { t.setLine i (.filling reserved) with missTable := advancePhase t.missTable old .waitEvict }

/-- A write-back of a dirty line in RESTART completes: the line is left VALID with dirty clear, and after the last
every line becomes EMPTY (R84, R87). -/
def restartWritten (s : State) (i : Fin 64) (n : Nat) (copy : Record) (referenced pinned : Bool) (requested : Nat) :
    State :=
  let t := (countWriteBack (writeImage s n copy)).setLine i (.valid n copy false referenced pinned)
  if t.cacheQ.isEmpty && t.inFlight.isEmpty then emptyLines t requested else t

/-- WRITE_BACK_COMPLETE (R84). -/
def execWriteBackComplete (s : State) : Host.Outcome State Fault Refusal :=
  match s.inFlight with
  | .writeBack i :: rest =>
    match lineAt s.lines i, s.restart with
    | .evicting old copy reserved, _ =>
      completing old s (evictionWritten { s with inFlight := rest } i old copy reserved)
    | .valid n copy _ referenced pinned, .writingBack requested =>
      completing n s (restartWritten { s with inFlight := rest } i n copy referenced pinned requested)
    | _, _ => .next s
  | _ => .next s

/-- The command waiter met the fault of the entry's own fill read (R95). -/
def Waiter.meetFault : Waiter → Waiter
  | .cell c => .cell c
  | .command _ => .command true

/-- A fill read completes for the entry whose target line is `i`: the line becomes VALID with the copy formed, and the
entry begins serving its waiters (R73, R90 to R96). -/
def filled (s : State) (n : Nat) (i : Fin 64) (damage : Damage) : State :=
  let read := readImage s n .fill (!occupied s n) damage
  let offer := offerFaulted read.1 n read.2
  let t := offer.1.setLine i (.valid n offer.2 read.2.dirty false false)
  serveCommand
    { t with
      missTable := updateEntry t.missTable n fun e =>
        some
          { e with
            fillDone := true
            waiters := if read.2.becameFaulted then e.waiters.map Waiter.meetFault else e.waiters } }
    n

/-- FILL_READ_COMPLETE (R73). -/
def execFillReadComplete (damage : Damage) (s : State) : Host.Outcome State Fault Refusal :=
  match s.inFlight with
  | .fill n :: rest =>
    match findEntry s.missTable n with
    | some e => completing n s (filled { s with inFlight := rest } n e.target damage)
    | none => .next s
  | _ => .next s

/-- A sweep read completes: the working copy is formed and checked, the FAULTED notice is offered first, the visit
actions are performed, and the sweep write is requested whatever they did (R97, R108). -/
def sweepVisited (s : State) (n : Nat) (damage : Damage) (during : VisitEvents) : State :=
  let read := readImage s n .sweep false damage
  let offer := offerFaulted read.1 n read.2
  let visit := visitActions during offer.1 n offer.2
  { visit.1 with hold := .writing n visit.2, sweepReq := some (.write n) }

/-- SWEEP_READ_COMPLETE (R108). -/
def execSweepReadComplete (damage : Damage) (s : State) (during : VisitEvents := .none) :
    Host.Outcome State Fault Refusal :=
  match s.inFlight with
  | .sweepRead n :: rest => completing n s (sweepVisited { s with inFlight := rest } n damage during)
  | _ => .next s

/-- A sweep write completes: the image is current, the Sweep Hold becomes none, a WAIT_SWEEP entry moves to READING,
the visit ends, and a remembered step is taken (R103, R109). -/
def sweepWritten (s : State) (n : Nat) (copy : Record) (during : VisitEvents) : State :=
  let t := writeImage s n copy
  let u := requestReady s { t with hold := .none, missTable := advancePhase t.missTable n .waitSweep }
  if u.remembered then beginVisit during { u with remembered := false } else u

/-- SWEEP_WRITE_COMPLETE (R109). -/
def execSweepWriteComplete (s : State) (during : VisitEvents := .none) : Host.Outcome State Fault Refusal :=
  match s.inFlight, s.hold with
  | .sweepWrite n :: rest, .writing _ copy => completing n s (sweepWritten { s with inFlight := rest } n copy during)
  | _, _ => .next s

/-- The drain of RESTART has left no ingress transfer, no cell in the classification stage or the Ingress FIFO, no
entry and no Sweep Hold (R87, R177). -/
def drained (s : State) : Bool :=
  s.device == .restarting && s.restart == .draining && s.transfer.isNone && s.stage.isNone && s.ingress.isEmpty &&
    s.missTable.isEmpty && !visitInProgress s

/-- The dirty VALID lines in line order (R87). -/
def dirtyLines (s : State) : List (Fin 64) := (List.finRange 64).filter fun i => (lineAt s.lines i).isDirty

/-- Step 2 of the Record Store's part of RESTART: the write-backs are requested; with none to wait for, every line
becomes EMPTY (R87). -/
def requestWriteBacks (s : State) : State :=
  if (dirtyLines s).isEmpty then emptyLines s 0
  else
    requestCache { s with restart := .writingBack (dirtyLines s).length } ((dirtyLines s).map CacheReq.writeBack)

/-- RESTART_WRITE_BACK_REQUEST (R87). -/
def execRestartWriteBackRequest (s : State) : Host.Outcome State Fault Refusal :=
  whileRunning s (if drained s then requestWriteBacks s else s)

end Sys2Proof.Machine
end

