-- ==== Sys2Proof/Machine/Passes.lean ====
section
/-! DEFINITION. The device-wide operations' ends: FORMAT_WRITE_COMPLETE, RESUME_READ_COMPLETE, RESUME_WRITE_COMPLETE,
RESTART_COMPLETE (sections 5.6, 5.7, 11.4, 11.5). -/

namespace Sys2Proof.Machine

/-- The command in an operation completes (R136, R170). -/
def completeOperation (s : State) (payload : List Byte) : State :=
  match s.engine with
  | .inOperation c => complete s c .ok payload
  | _ => s

/-- A pass ends: records-preserved is cleared, the device enters RUNNING, and the Sweep Unit's count starts at 0
(R116, R175, R176). -/
def enterRunning (s : State) : State :=
  { s with
    preserved := none, device := .running, interval := 0, remembered := false, pass := .none }

/-- The FORMAT pass ends (R98, R175). -/
def endFormat (s : State) : State :=
  completeOperation (enterRunning { s with occupancy := [], owedCount := 0 }) (beBytes 2 s.setup.capacity)

/-- A write of the FORMAT pass completes (R98). -/
def formatWritten (s : State) (n : Nat) : State :=
  let t := writeImage s n Record.blank
  if n + 1 = s.setup.capacity then endFormat t else t

/-- FORMAT_WRITE_COMPLETE (R98). -/
def execFormatWriteComplete (s : State) : Host.Outcome State Fault Refusal :=
  match s.inFlight, s.pass with
  | .formatWrite n :: rest, .format _ => completing n s (formatWritten { s with inFlight := rest } n)
  | _, _ => .next s

/-- One more record of a state (R99). -/
def StateCounts.bump (c : StateCounts) : RecState → StateCounts
  | .vacant => { c with vacant := c.vacant + 1 }
  | .active => { c with active := c.active + 1 }
  | .held => { c with held := c.held + 1 }
  | .expired => { c with expired := c.expired + 1 }
  | .faulted => { c with faulted := c.faulted + 1 }

/-- The RESUME pass ends when the read of record capacity − 1 and every write requested have completed (R100, R176).
-/
def finishResume (s : State) : State :=
  match s.pass with
  | .resume next counts [] =>
    if s.setup.capacity ≤ next ∧ s.inFlight = [] then completeOperation (enterRunning s) (countsPayload counts) else s
  | _ => s

/-- A read of the RESUME pass completes: the image is judged, counted, entered in the map and in the owed-record count,
and written back if it needs it (R99, R100). -/
def resumeJudged (s : State) (n next : Nat) (counts : StateCounts) (writes : List (Nat × Record)) (damage : Damage) :
    State :=
  let read := readImage s n .resume false damage
  let offer := offerFaulted read.1 n read.2
  finishResume
    { offer.1 with
      owedCount := s.owedCount + (if offer.2.owed.isEmpty then 0 else 1)
      occupancy := if offer.2.state = .vacant then s.occupancy else occSet s.occupancy n
      pass := .resume next (counts.bump offer.2.state) (writes ++ if read.2.repair then [(n, offer.2)] else []) }

/-- RESUME_READ_COMPLETE (R99). -/
def execResumeReadComplete (damage : Damage) (s : State) : Host.Outcome State Fault Refusal :=
  match s.inFlight, s.pass with
  | .resumeRead n :: rest, .resume next counts writes =>
    completing n s (resumeJudged { s with inFlight := rest } n next counts writes damage)
  | _, _ => .next s

/-- RESUME_WRITE_COMPLETE (R100). -/
def execResumeWriteComplete (s : State) : Host.Outcome State Fault Refusal :=
  match s.inFlight with
  | .resumeWrite n copy :: rest => completing n s (finishResume (writeImage { s with inFlight := rest } n copy))
  | _ => .next s

/-- The RESTART sequence completes (R178). -/
def endRestart (s : State) (requested : Nat) : State :=
  completeOperation
    { s with
      preserved := some ⟨s.setup.capacity, s.setup.tickPeriod, s.setup.guard⟩
      ports := .zero
      cellsInside := 0
      stats := .zero
      occupancy := []
      hand := 0
      sweepPos := s.setup.capacity - 1
      interval := 0
      remembered := false
      restart := .idle
      device := .config }
    (beBytes 1 requested)

/-- RESTART_COMPLETE: the Record Store has finished its part and the Egress FIFO is empty (R178). -/
def execRestartComplete (s : State) : Host.Outcome State Fault Refusal :=
  whileRunning s
    (match s.restart, s.egress with
    | .emptied requested, [] => endRestart s requested
    | _, _ => s)

end Sys2Proof.Machine
end

