-- ==== Sys2Proof/Machine/Reset.lean ====
section
/-! DEFINITION. POWER_ON, RESET_PIN_ASSERT, RESET_PIN_DEASSERT (section 11.2). -/

namespace Sys2Proof.Machine

/-- The record memory when an assertion cuts the transactions in flight short: of the oldest, if it is a write, the
first `words` words have been transferred, and never all sixteen (R88, log 12). -/
def cutShort (s : State) (words : Nat) : Memory :=
  match s.inFlight with
  | [] => s.memory
  | t :: _ =>
    match writeInFlight s t with
    | none => s.memory
    | some (n, copy) => s.memory.writeWords (16 * n) ((encodeImage copy).take (min words 15))

/-- POWER_ON: an assertion of the RESET pin that ends when the supply is established (R172). The SRAM holds whatever it
holds (R88, log 11). Taken while the RESET pin is asserted it ends that assertion too (the model's choice, log 20). -/
def execPowerOn (selectLow : Bool) (sram : List Host.Cell) (errors : List (Nat × ErrorMask)) (s : State) :
    Host.Outcome State Fault Refusal :=
  .next { resetDevice s false selectLow with memory := .ofContents sram errors }

/-- RESET_PIN_ASSERT: every operation ends where it stands and the device is held at its reset values (R172). -/
def execResetPinAssert (words : Nat) (s : State) : Host.Outcome State Fault Refusal :=
  .next (if s.resetPin then s else { resetDevice s true false with memory := cutShort s words })

/-- RESET_PIN_DEASSERT: the assertion ends and the device is in CONFIG with its reset values (R170, R172). If
chip-select is low, the link waits for it to rise (R159). -/
def execResetPinDeassert (selectLow : Bool) (s : State) : Host.Outcome State Fault Refusal :=
  .next (if s.resetPin then resetDevice s false selectLow else s)

end Sys2Proof.Machine
end

