-- ==== Sys2Proof/Machine/Time.lean ====
section
/-! DEFINITION. TICK and SWEEP_STEP (sections 2.1 and 6.1). -/

namespace Sys2Proof.Machine

/-- The end of a tick: the count advances, the next tick lasts the period in force, and in RUNNING the interval count
advances (R23, R24, R102). -/
def endTick (s : State) : State :=
  { s with
    now := s.now + 1
    tickInProgress := s.setup.tickPeriod
    interval := if s.device = .running then s.interval + 1 else s.interval }

/-- TICK. A sweep step that fell due at the tick before and has not been taken is taken first, with no NOTICE-READ
within its visit (R102, log 4). -/
def execTick (s : State) : Host.Outcome State Fault Refusal :=
  whileRunning s (endTick (if stepDue s then takeDueStep .none s else s))

/-- SWEEP_STEP: the step that is due is taken (R102 to R108). -/
def execSweepStep (s : State) (during : VisitEvents := .none) : Host.Outcome State Fault Refusal :=
  whileRunning s (if stepDue s then takeDueStep during s else s)

end Sys2Proof.Machine
end

