-- ==== Sys2Proof/Machine/Dispatch.lean ====
section
/-! DEFINITION. One arm for each event of the opcode table, each one call of its meaning. -/

namespace Sys2Proof.Machine

/-- The effect of an event on everything but the queue of waiting events. -/
def exec (i : Instr) (s : State) : Host.Outcome State Fault Refusal :=
  match i with
  | .powerOn selectLow sram errors => Sys2Proof.Machine.execPowerOn selectLow sram errors s
  | .resetPinAssert words => Sys2Proof.Machine.execResetPinAssert words s
  | .resetPinDeassert selectLow => Sys2Proof.Machine.execResetPinDeassert selectLow s
  | .tick => Sys2Proof.Machine.execTick s
  | .sweepStep during => Sys2Proof.Machine.execSweepStep s during
  | .ingressTransferBegin first => Sys2Proof.Machine.execIngressTransferBegin first s
  | .cellAccept rest => Sys2Proof.Machine.execCellAccept rest s
  | .ingressHeadLeaves => Sys2Proof.Machine.execIngressHeadLeaves s
  | .egressPlaceGrant requester => Sys2Proof.Machine.execEgressPlaceGrant requester s
  | .cellEmit => Sys2Proof.Machine.execCellEmit s
  | .memoryIssue => Sys2Proof.Machine.execMemoryIssue s
  | .writeBackComplete => Sys2Proof.Machine.execWriteBackComplete s
  | .fillReadComplete damage => Sys2Proof.Machine.execFillReadComplete damage s
  | .sweepReadComplete damage during => Sys2Proof.Machine.execSweepReadComplete damage s during
  | .sweepWriteComplete during => Sys2Proof.Machine.execSweepWriteComplete s during
  | .formatWriteComplete => Sys2Proof.Machine.execFormatWriteComplete s
  | .resumeReadComplete damage => Sys2Proof.Machine.execResumeReadComplete damage s
  | .resumeWriteComplete => Sys2Proof.Machine.execResumeWriteComplete s
  | .restartWriteBackRequest => Sys2Proof.Machine.execRestartWriteBackRequest s
  | .restartComplete => Sys2Proof.Machine.execRestartComplete s
  | .command tag code params check more => Sys2Proof.Machine.execCommand tag code params check s more
  | .responseRead entered more => Sys2Proof.Machine.execResponseRead entered s more
  | .noticeRead entered more => Sys2Proof.Machine.execNoticeRead entered s more
  | .linkStatus more => Sys2Proof.Machine.execLinkStatus s more
  | .voidTransaction first more => Sys2Proof.Machine.execVoidTransaction first more s
  | .transactionAbandon what => Sys2Proof.Machine.execTransactionAbandon what s
  | .setup => Sys2Proof.Machine.execSetup s
  | .format => Sys2Proof.Machine.execFormat s
  | .resume => Sys2Proof.Machine.execResume s
  | .restart => Sys2Proof.Machine.execRestart s
  | .status => Sys2Proof.Machine.execStatus s
  | .ruleWrite => Sys2Proof.Machine.execRuleWrite s
  | .ruleRead => Sys2Proof.Machine.execRuleRead s
  | .admitRecord => Sys2Proof.Machine.execAdmit s
  | .amend => Sys2Proof.Machine.execAmend s
  | .hold => Sys2Proof.Machine.execHold s
  | .release => Sys2Proof.Machine.execRelease s
  | .retire => Sys2Proof.Machine.execRetire s
  | .query => Sys2Proof.Machine.execQuery s
  | .pin => Sys2Proof.Machine.execPin s
  | .unpin => Sys2Proof.Machine.execUnpin s
  | .commandStepRetry => Sys2Proof.Machine.execCommandStepRetry s
  | .partialCellDropped first => Sys2Proof.Machine.execPartialCellDropped s first

end Sys2Proof.Machine
end

