-- ==== Sys2Proof/Machine/Step.lean ====
section
/-! DEFINITION. One step: the event at the front of the queue is taken. -/

namespace Sys2Proof.Machine

/-- Take the event at the front of the queue and run it on the state with the queue's rest. On an empty queue the
block idles (log 2). -/
def step (s : State) : Host.Outcome State Fault Refusal :=
  match s.pending with
  | [] => .next s
  | i :: rest => exec i { s with pending := rest }

/-- `s` with the event that the table's word spells put at the front of its queue; `s` itself where the word spells
none, which is every word, since no row of the table has bits. -/
def State.withFetchWord (s : State) (nbits w : Nat) : State :=
  match decodeTableWord nbits w with
  | some i => { s with pending := i :: s.pending }
  | none => s

end Sys2Proof.Machine
end

