-- ==== Sys2Proof/Safety.lean ====
section
/-! DEFINITION. What a safe state of the WB7160 is: the bounds and laws the spec states of every moment; and the words
in which the statements about single events are written. -/

namespace Sys2Proof.Safety

open Machine

/-! ### Words of the statements -/

/-- The current command `c` completes: its response enters the tail of the response queue, and the oldest queued
command, if there is one, becomes current (R136). -/
def answered (s : State) (c : Command) (outcome : OutcomeCode) (payload : List Byte) : State :=
  match s.cmdQueue with
  | [] => { s with responses := s.responses ++ [⟨c.tag, c.code, outcome, payload⟩], engine := .idle }
  | d :: q =>
    { s with responses := s.responses ++ [⟨c.tag, c.code, outcome, payload⟩], engine := .checking d, cmdQueue := q }

/-- A claim taken at once on line `i`, which it leaves with this record and these flags and referenced set; the hits
counter rises (R63, R86). -/
def claimed (s : State) (i : Fin 64) (number : Nat) (r : Record) (dirty pinned : Bool) : State :=
  { s with
    lines := s.lines.set i.val (.valid number r dirty true pinned) i.isLt
    stats := { s.stats with hits := s.stats.hits + 1 } }

/-- The current command is `c`, its code is `code`, and the RESET pin is not asserted. -/
abbrev Current (s : State) (c : Command) (code : Byte) : Prop :=
  s.resetPin = false ∧ s.engine = .checking c ∧ c.code = code

/-- A record command that has passed stages 1 and 2 of its checks (R138): RUNNING, and a record of the body. -/
abbrev RecordCommand (s : State) (c : Command) (code : Byte) (number : Nat) : Prop :=
  Current s c code ∧ s.device = .running ∧ paramRecord c = number ∧ number < s.setup.capacity

/-- Record `number` is resident in line `i`, which holds copy `r` with these flags (R61, R66). -/
abbrev ResidentIn (s : State) (number : Nat) (i : Fin 64) (r : Record) (dirty referenced pinned : Bool) : Prop :=
  standing s number = .resident i ∧ lineAt s.lines i = .valid number r dirty referenced pinned

/-- Every register, queue and buffer of the list of R172 holds the value listed there. -/
def AtResetValues (t : State) : Prop :=
  t.device = .config ∧ t.setup = ⟨4096, 1, 100, 0, .discard, .discard⟩ ∧ t.preserved = none ∧ t.restart = .idle ∧
    t.pass = .none ∧ t.now = 0 ∧ t.tickInProgress = 1 ∧
    (∀ k : Fin 16, t.rules[k] = ⟨false, 0, 0, 0, 0, 0, 1⟩) ∧ (∀ i : Fin 64, lineAt t.lines i = .empty) ∧ t.hand = 0 ∧
    t.missTable = [] ∧ pendingTaken t = 0 ∧ t.hold = .none ∧ t.occupancy = [] ∧ t.stats = ⟨0, 0, 0, 0, 0⟩ ∧
    t.owedCount = 0 ∧ t.cacheQ = [] ∧ t.sweepReq = none ∧ t.inFlight = [] ∧ t.sweepPos = 4095 ∧ t.interval = 0 ∧
    t.remembered = false ∧ t.transfer = none ∧ t.ingress = [] ∧ t.stage = none ∧ t.egress = [] ∧
    t.ports = ⟨0, 0, 0, 0, 0, 0, 0, 0, 0, 0, 0, 0, 0⟩ ∧ t.cellsInside = 0 ∧ t.cmdQueue = [] ∧ t.responses = [] ∧
    outstanding t = 0 ∧ t.lastAcceptance = none ∧ t.notices = [] ∧ t.engine = .idle ∧ attention t = false ∧
    ingressReady t = false

/-- POWER_ON, RESET_PIN_ASSERT or RESET_PIN_DEASSERT. -/
def isResetEvent : Instr → Bool
  | .powerOn _ _ _ => true
  | .resetPinAssert _ => true
  | .resetPinDeassert _ => true
  | _ => false

/-- How many NOTICE-READs the operand of a visit holds (R119). -/
def readCount (v : VisitEvents) : Nat :=
  v.idle.toList.length + v.owedExpired.toList.length + v.owedIdle.toList.length + v.owedAlert.toList.length +
    v.owedFaulted.toList.length

/-- How many NOTICE-READs can complete within an event: one at NOTICE_READ, those of a visit's operand (R119). -/
def noticeReads : Instr → Nat
  | .noticeRead _ _ => 1
  | .sweepStep during => readCount during
  | .sweepReadComplete _ during => readCount during
  | .sweepWriteComplete during => readCount during
  | _ => 0

/-- The eight record commands with their codes (R139, R181). -/
def recordCommands : List (Instr × Byte) :=
  [(.admitRecord, codeAdmit), (.amend, codeAmend), (.hold, codeHold), (.release, codeRelease), (.retire, codeRetire),
    (.query, codeQuery), (.pin, codePin), (.unpin, codeUnpin)]

/-- The fifteen commands with their codes (R181). -/
def allCommands : List (Instr × Byte) :=
  [(.setup, codeSetup), (.format, codeFormat), (.resume, codeResume), (.restart, codeRestart), (.status, codeStatus),
    (.ruleWrite, codeRuleWrite), (.ruleRead, codeRuleRead)] ++ recordCommands

/-- The current command passes the checks of its own that need no record (stage 3 of R138). -/
def PassesOwnChecks (s : State) (c : Command) : Prop :=
  (c.code = codeAdmit → admitRefusal s c = none) ∧ (c.code = codeAmend → amendRefusal s c = none) ∧
    (c.code = codeHold ∨ c.code = codeRetire → guardRefusal s c = none)

/-- The first entry of the Miss Table that names `number` is `e`, between these others. -/
abbrev EntryAt (t : List Entry) (number : Nat) (before : List Entry) (e : Entry) (after : List Entry) : Prop :=
  t = before ++ e :: after ∧ e.number = number ∧ ∀ x ∈ before, x.number ≠ number

/-- A Miss Table after the head waiter of `e` has been served, the waiters `rest` being left: the entry is freed with
its last waiter (R74). -/
def served (before : List Entry) (e : Entry) (rest : List Waiter) (after : List Entry) : List Entry :=
  before ++ (if rest = [] then after else { e with waiters := rest } :: after)

/-- Line `i` is VALID, unpinned and not a target line: victim selection may choose it (R67). -/
def choosable (t : List Entry) (l : Line) (i : Fin 64) : Bool :=
  match l with
  | .valid _ _ _ _ pinned => !pinned && !isTarget t i
  | _ => false

/-- The line's referenced flag is set. -/
def referenced : Line → Bool
  | .valid _ _ _ f _ => f
  | _ => false

/-- The line with its referenced flag cleared. -/
def unreferenced : Line → Line
  | .valid n r d _ p => .valid n r d false p
  | l => l

/-- `step` places past line `i`, line 63 being followed by line 0. -/
def past (i : Fin 64) (step : Nat) : Fin 64 := i + Fin.ofNat 64 step

/-- The cells an evaluation puts in the Egress FIFO (R36, R37, R40). -/
def emittedBy (c : Cell) : Verdict → List EgressCell
  | .pass => [⟨c, .pass⟩]
  | .mark => [⟨markCell c, .mark⟩]
  | .discard _ => []

/-- The state in which an evaluation leaves the cell's fate: a discard is counted and the cell is inside no longer
(R40, R133). -/
def settled (s : State) (c : Cell) (v : Verdict) : State :=
  { s with
    egress := s.egress ++ emittedBy c v
    ports := match v with
      | .discard reason => s.ports.bump reason
      | _ => s.ports
    cellsInside := match v with
      | .discard _ => s.cellsInside - 1
      | _ => s.cellsInside }

/-- The kinds of an owed set in their order (R114). -/
def owedKinds (o : OwedSet) : List OwedKind :=
  [OwedKind.expired, OwedKind.idle, OwedKind.alert, OwedKind.faulted].filter o.has

/-- The end of a RESUME pass with these counts (R100, R176). -/
def resumed (s : State) (c : Command) (counts : StateCounts) : State :=
  answered
    { s with preserved := none, device := .running, interval := 0, remembered := false, pass := .none } c .ok
    ([counts.vacant, counts.active, counts.held, counts.expired, counts.faulted].flatMap fun k =>
      [BitVec.ofNat 8 (k / 256), BitVec.ofNat 8 k])

/-- The bytes of a field of the link, most significant first (12, byte order). -/
def msFirst (k : Nat) (v : BitVec (8 * k)) : List Byte := (List.range k).map fun i => v.extractLsb' (8 * (k - 1 - i)) 8

/-! ### Bounds -/

/-- The rooms of the device: the notice queue (R118), both FIFOs (R127, R129), the Miss Table and the Pending Cell
Store (R78), the transactions in flight (R83), the outstanding commands (R162), the pinned lines (R68). -/
def Bounded (s : State) : Prop :=
  s.notices.length ≤ 16 ∧ ingressTaken s ≤ 16 ∧ s.egress.length ≤ 16 ∧ s.missTable.length ≤ 8 ∧
    pendingTaken s ≤ 32 ∧ s.inFlight.length ≤ 4 ∧ outstanding s ≤ 8 ∧ pinnedCount s ≤ 48

/-! ### The device state and the operation in progress -/

/-- The Maintenance Engine is in an operation. -/
def inOperation : Engine → Bool
  | .inOperation _ => true
  | _ => false

/-- The pass in progress is the FORMAT pass. -/
def isFormat : Pass → Bool
  | .format _ => true
  | _ => false

/-- The pass in progress is the RESUME pass. -/
def isResume : Pass → Bool
  | .resume _ _ _ => true
  | _ => false

/-- The device state agrees with the operation in progress (R136, R170, R171). -/
def OperationAgrees (s : State) : Prop :=
  match s.device with
  | .config => s.restart = .idle ∧ s.pass = .none ∧ inOperation s.engine = false
  | .running => s.restart = .idle ∧ s.pass = .none ∧ inOperation s.engine = false
  | .formatting => s.restart = .idle ∧ isFormat s.pass = true ∧ inOperation s.engine = true
  | .resuming => s.restart = .idle ∧ isResume s.pass = true ∧ inOperation s.engine = true
  | .restarting => s.restart ≠ .idle ∧ s.pass = .none ∧ inOperation s.engine = true

/-- The RESTART sequence is past its drain (R87). -/
def pastDrain : RestartPhase → Bool
  | .writingBack _ => true
  | .emptied _ => true
  | _ => false

/-- Past the drain of a RESTART no cell is at the ingress, in the classification stage or on an entry (R87). -/
def DrainHolds (s : State) : Prop :=
  pastDrain s.restart = true → s.transfer = none ∧ s.ingress = [] ∧ s.stage = none ∧ s.missTable = []

/-- The device state, the operation in progress and the drain agree. -/
def Coherent (s : State) : Prop := OperationAgrees s ∧ DrainHolds s

/-! ### The conservation law (R134) -/

/-- The cells in the Ingress FIFO, the classification stage, the Pending Cell Store and the Egress FIFO. -/
def cellsHeld (s : State) : Nat :=
  s.ingress.length + s.stage.toList.length + pendingTaken s + s.egress.length

/-- The sum of the eight discard counters, modulo 2^48. -/
def discarded (p : PortCounters) : DeviceCounter :=
  p.header + p.noRule + p.unadmitted + p.mismatch + p.missOverflow + p.stateDiscards + p.excess + p.fault

/-- The conservation law, with the count of cells inside and the sum of the emissions (R133, R134). -/
def Conserved (s : State) : Prop :=
  s.ports.accepted = s.ports.emitted + discarded s.ports + BitVec.ofNat 48 (cellsHeld s) ∧
    s.ports.emitted = s.ports.passed + s.ports.marked + s.ports.unpoliced ∧ s.cellsInside = cellsHeld s

/-! ### Lines and entries (R61, R70) -/

/-- The line is EVICTING or FILLING. -/
def reservedLine : Line → Bool
  | .evicting _ _ _ => true
  | .filling _ => true
  | _ => false

/-- No two entries name one record, no two have one target line, no target line is EMPTY, and every EVICTING or
FILLING line is the target line of an entry. -/
def EntriesDistinct (s : State) : Prop :=
  (s.missTable.map Entry.number).Nodup ∧ (s.missTable.map Entry.target).Nodup ∧
    (∀ e ∈ s.missTable, lineAt s.lines e.target ≠ .empty) ∧
    ∀ i : Fin 64, reservedLine (lineAt s.lines i) = true → isTarget s.missTable i = true

/-! ### Budgets (R42) -/

/-- The copy in a line. -/
def lineCopies : Line → List Record
  | .valid _ r _ _ _ => [r]
  | .evicting _ r _ => [r]
  | _ => []

/-- The Sweep Unit's working copy. -/
def holdCopies : SweepHold → List Record
  | .writing _ r => [r]
  | _ => []

/-- The copies of a pass waiting to be written. -/
def passCopies : Pass → List Record
  | .resume _ _ writes => writes.map (·.2)
  | _ => []

/-- The copy of a pass in flight. -/
def flightCopies : Txn → List Record
  | .resumeWrite _ r => [r]
  | _ => []

/-- Every copy of a record that the part holds. -/
def copiesHeld (s : State) : List Record :=
  s.lines.toList.flatMap lineCopies ++ holdCopies s.hold ++ passCopies s.pass ++ s.inFlight.flatMap flightCopies

/-- The budget of every admitted copy lies within its depth. -/
def BudgetsWithinDepth (s : State) : Prop :=
  ∀ r ∈ copiesHeld s, r.admitted = true → r.budget.toNat ≤ r.depth.toNat

/-! ### Record numbers (R1, R18, R60) -/

/-- Every rule lies within the capacity in force. -/
def RulesFit (s : State) : Prop := ∀ k : Fin 16, (s.rules[k]).recordBase + (s.rules[k]).rangeLength ≤ s.setup.capacity

/-- The record numbers of a line. -/
def lineNumbers : Line → List Nat
  | .empty => []
  | .valid n _ _ _ _ => [n]
  | .evicting old _ reserved => [old, reserved]
  | .filling reserved => [reserved]

/-- The record number of a cache request. -/
def requestNumbers : CacheReq → List Nat
  | .fill n => [n]
  | .writeBack _ => []

/-- The record number of a sweep request. -/
def sweepNumbers : SweepReq → List Nat
  | .read n => [n]
  | .write n => [n]

/-- The record number of a transaction. -/
def flightNumbers : Txn → List Nat
  | .fill n => [n]
  | .writeBack _ => []
  | .sweepRead n => [n]
  | .sweepWrite n => [n]
  | .formatWrite n => [n]
  | .resumeRead n => [n]
  | .resumeWrite n _ => [n]

/-- The record number of the cell in the classification stage. -/
def stageNumbers : StageCell → List Nat
  | .direct _ n => [n]
  | .unpoliced _ n => n.toList

/-- The record numbers of a pass's waiting writes. -/
def passNumbers : Pass → List Nat
  | .resume _ _ writes => writes.map (·.1)
  | _ => []

/-- The record number a command step waits to reach. -/
def engineNumbers : Engine → List Nat
  | .waitingForEntry c => [paramRecord c]
  | _ => []

/-- Every record number that the part holds. -/
def numbersHeld (s : State) : List Nat :=
  s.lines.toList.flatMap lineNumbers ++ s.missTable.map Entry.number ++ s.hold.number.toList ++
    s.cacheQ.flatMap requestNumbers ++ s.sweepReq.toList.flatMap sweepNumbers ++
    s.inFlight.flatMap flightNumbers ++ s.stage.toList.flatMap stageNumbers ++ s.occupancy ++
    passNumbers s.pass ++ engineNumbers s.engine

/-- Every record number held is one the address pins of record memory reach, as is the capacity, and every rule lies
within the capacity. -/
def NumbersExist (s : State) : Prop :=
  s.setup.capacity ≤ Config.maxRecords ∧ RulesFit s ∧ ∀ n ∈ numbersHeld s, n < Config.maxRecords

/-! ### Current copies and requests (R2, R61, R70, R72, R82, R83) -/

/-- The record of which a line's copy is current (R2). -/
def copyNumber : Line → Option Nat
  | .valid n _ _ _ _ => some n
  | .evicting old _ _ => some old
  | _ => none

/-- A record's current copy where the part holds it: in a line, or as the Sweep Unit's working copy (R2). -/
def currentCopy (s : State) (n : Nat) : Option Record :=
  match s.lines.toList.find? fun l => copyNumber l == some n with
  | some l => (lineCopies l).head?
  | none =>
    match s.hold with
    | .writing m r => if m = n then some r else none
    | _ => none

/-- One line at most holds a record's copy, and none does while the Sweep Hold names the record. -/
def CopiesApart (s : State) : Prop :=
  (∀ (i j : Fin 64) (n : Nat), copyNumber (lineAt s.lines i) = some n → copyNumber (lineAt s.lines j) = some n → i = j) ∧
    ∀ (i : Fin 64) (n : Nat), s.hold.number = some n → copyNumber (lineAt s.lines i) ≠ some n

/-- An entry agrees with the lines and the Sweep Hold: once its fill is done its target line holds its record; before,
the line is reserved for the record, no line holds it, and what its phase waits for is so (R61, R70, R72). -/
def EntryAgrees (s : State) (e : Entry) : Prop :=
  (e.fillDone = true → (lineAt s.lines e.target).holds e.number = true) ∧
    (e.fillDone = false →
      (lineAt s.lines e.target = .filling e.number ∨
        ∃ old r, lineAt s.lines e.target = .evicting old r e.number) ∧
      (∀ i : Fin 64, (lineAt s.lines i).holds e.number = false) ∧
      (e.phase = .reading →
        s.hold.number ≠ some e.number ∧ ∀ i : Fin 64, (lineAt s.lines i).evicts e.number = false) ∧
      (e.phase = .waitEvict → ∃ i : Fin 64, (lineAt s.lines i).evicts e.number = true) ∧
      (e.phase = .waitSweep → s.hold.number = some e.number))

/-- The records whose fill read is requested or in flight. -/
def fillsAsked (s : State) : List Nat :=
  (s.cacheQ.filterMap fun q => match q with
    | .fill n => some n
    | .writeBack _ => none) ++
  s.inFlight.filterMap fun t => match t with
    | .fill n => some n
    | _ => none

/-- The sweep requests waiting or in flight. -/
def sweepsAsked (s : State) : List SweepReq :=
  s.sweepReq.toList ++ s.inFlight.filterMap fun t => match t with
    | .sweepRead n => some (.read n)
    | .sweepWrite n => some (.write n)
    | _ => none

/-- Each fill read asked for is that of one entry that waits for it; at most one sweep request is asked for, for the
record in the Sweep Hold; repair writes are those of a RESUME pass (R72, R83, R100). -/
def RequestsAgree (s : State) : Prop :=
  (fillsAsked s).Nodup ∧
    (∀ n ∈ fillsAsked s, ∃ e ∈ s.missTable, e.number = n ∧ e.fillDone = false ∧ e.ready s.lines = true) ∧
    (sweepsAsked s).length ≤ 1 ∧ (∀ n, .read n ∈ sweepsAsked s → s.hold = .reading n) ∧
    (∀ n, .write n ∈ sweepsAsked s → ∃ r, s.hold = .writing n r) ∧
    ∀ n r, .resumeWrite n r ∈ s.inFlight → isResume s.pass = true

/-- Copies, entries and requests agree. -/
def StoreAgrees (s : State) : Prop := CopiesApart s ∧ (∀ e ∈ s.missTable, EntryAgrees s e) ∧ RequestsAgree s

/-! ### The law of the Occupancy Map (R18) -/

/-- The image of a record, as it was written, is that of a VACANT record (R183). -/
def imageVacant (s : State) (n : Nat) : Prop := (s.memory.readWord (16 * n)).extractLsb' 0 3 = 0

/-- The current copy of a record is VACANT (R2). -/
def VacantNow (s : State) (n : Nat) : Prop :=
  match currentCopy s n with
  | some r => r.state = .vacant
  | none => imageVacant s n

/-- A record's Occupancy Map entry is set exactly when its current copy is not VACANT (R18). With it: a record whose
sweep read is awaited has its entry set, and the copy in a clean line is VACANT exactly when the image is. -/
def OccupancyAgrees (s : State) : Prop :=
  (∀ n, n < s.setup.capacity → (n ∈ s.occupancy ↔ ¬VacantNow s n)) ∧
    (∀ n, s.hold = .reading n → n ∈ s.occupancy) ∧
    ∀ (i : Fin 64) (n : Nat) (r : Record) (f p : Bool), n < s.setup.capacity →
      lineAt s.lines i = .valid n r false f p → (r.state = .vacant ↔ imageVacant s n)

/-! ### The owed-record count (R13) -/

/-- The owed set of a record's image, as it was written. -/
def imageOwed (s : State) (n : Nat) : OwedSet := owedCopy 0 (s.memory.readWord (16 * n))

/-- The current copy of a record has a non-empty owed set. -/
def owes (s : State) (n : Nat) : Bool :=
  match currentCopy s n with
  | some r => !r.owed.isEmpty
  | none => !(imageOwed s n).isEmpty

/-- How many records owe a notice. -/
def owing (s : State) : Nat := (List.range s.setup.capacity).countP (owes s)

/-- Every record number the part holds is below the capacity, and every rule lies within it (R1, R60). -/
def RecordsFit (s : State) : Prop := RulesFit s ∧ ∀ n ∈ numbersHeld s, n < s.setup.capacity

/-- The owed-record count covers the records that owe a notice (R13). With it: a VACANT record owes none (R12), the
sixteen owed-set copies of an image are one (R89), and the copy in a clean line owes as the image does. -/
def OwedAgrees (s : State) : Prop :=
  owing s ≤ s.owedCount ∧ (∀ n, n < s.setup.capacity → VacantNow s n → owes s n = false) ∧
    (∀ n k, n < s.setup.capacity → k < 16 → owedCopy k (s.memory.readWord (16 * n + k)) = imageOwed s n) ∧
    ∀ (i : Fin 64) (n : Nat) (r : Record) (f p : Bool), n < s.setup.capacity →
      lineAt s.lines i = .valid n r false f p → r.owed = imageOwed s n

/-! ### The device-wide passes (R98 to R100) -/

/-- The Record Store holds no copy, no entry and no request of its own. -/
def StoreEmpty (s : State) : Prop :=
  (∀ i : Fin 64, lineAt s.lines i = .empty) ∧ s.missTable = [] ∧ s.hold = .none ∧ s.stage = none ∧ s.cacheQ = [] ∧
    s.sweepReq = none

/-- Every image is as the part writes images: its sixteen owed-set copies are one (R89), and a VACANT one owes nothing
(R12). -/
def ImagesSound (s : State) : Prop :=
  ∀ n, n < s.setup.capacity →
    (∀ k, k < 16 → owedCopy k (s.memory.readWord (16 * n + k)) = imageOwed s n) ∧
      (imageVacant s n → (imageOwed s n).isEmpty = true)

/-- The records whose RESUME read is in flight. -/
def resumeReads (s : State) : List Nat :=
  s.inFlight.filterMap fun t => match t with
    | .resumeRead n => some n
    | _ => none

/-- The repairs that a RESUME pass has asked for and that have not completed, each with its copy (R100). -/
def repairs (s : State) : List (Nat × Record) :=
  (match s.pass with
    | .resume _ _ writes => writes
    | _ => []) ++
  s.inFlight.filterMap fun t => match t with
    | .resumeWrite n r => some (n, r)
    | _ => none

/-- The record that a RESUME pass found in an image is VACANT: the copy of the repair that is still to come, or else the
image. -/
def foundVacant (s : State) (n : Nat) : Prop :=
  match (repairs s).find? fun x => x.1 == n with
  | some x => x.2.state = .vacant
  | none => imageVacant s n

/-- The record that a RESUME pass found in an image owes a notice. -/
def foundOwing (s : State) (n : Nat) : Bool :=
  match (repairs s).find? fun x => x.1 == n with
  | some x => !x.2.owed.isEmpty
  | none => !(imageOwed s n).isEmpty

/-- A RESUME pass in progress agrees with the images it has read: the Occupancy Map and the owed-record count are those
of the records found so far; nothing but the pass's own transactions is in flight, each record's once; a copy still to
be written that is VACANT owes nothing (R12, R99, R100). -/
def ResumeAgrees (s : State) : Prop :=
  StoreEmpty s ∧ RulesFit s ∧ ImagesSound s ∧
    ∃ next counts writes, s.pass = .resume next counts writes ∧ next ≤ s.setup.capacity ∧
      (∀ t ∈ s.inFlight, (∃ n, t = .resumeRead n) ∨ ∃ n r, t = .resumeWrite n r) ∧
      (resumeReads s ++ (repairs s).map Prod.fst).Nodup ∧
      (∀ n ∈ resumeReads s ++ (repairs s).map Prod.fst, n < next) ∧
      (∀ x ∈ repairs s, x.2.state = .vacant → x.2.owed.isEmpty = true) ∧
      (∀ n, n ∈ s.occupancy ↔ n < next ∧ n ∉ resumeReads s ∧ ¬foundVacant s n) ∧
      s.owedCount = (List.range next).countP fun n => !(resumeReads s).contains n && foundOwing s n

/-- A FORMAT pass in progress: the writes in flight are the last ones issued, in order of record number, and every image
before them is blank (R98). -/
def FormatAgrees (s : State) : Prop :=
  StoreEmpty s ∧ RulesFit s ∧
    ∃ done next, s.pass = .format next ∧ done ≤ next ∧ next ≤ s.setup.capacity ∧
      s.inFlight = (List.range' done (next - done)).map .formatWrite ∧
      ∀ n k, n < done → k < 16 → s.memory.readWord (16 * n + k) = 0

/-- What the end of a pass leaves: RUNNING, with the law of the Occupancy Map (R18), the owed-record count equal to the
number of records that owe (R13), and every record number held below the capacity (R1). -/
def LawsHold (s : State) : Prop := OccupancyAgrees s ∧ OwedAgrees s ∧ s.owedCount = owing s ∧ RecordsFit s

end Sys2Proof.Safety
end

