-- ==== Sys2Proof/Certificates/Slice0/Obligations.lean ====
section
/-! DEFINITION. The statements for the provers. -/

section Statements

open Sys2Proof Sys2Proof.Machine Sys2Proof.Safety

/-! ### The queue of events, reset, time -/

/-- A step takes the event at the front of the queue and runs it on the state with the queue's rest; on an empty queue
the block idles (the model's queue, log 2). -/
def Obligations.StepTakesFrontEvent : Prop :=
  (∀ (c : Instr) (rest : List Instr) (s : State),
    step { s with pending := c :: rest } = exec c { s with pending := rest }) ∧
  ∀ s : State, s.pending = [] → step s = .next s

/-- Power-on, the assertion of the RESET pin and its end leave the device with the values listed in R172; the reset
state has them too. After power-on and after the end of the assertion the link waits for chip-select to rise exactly
where it is low then (R159). That the values and CONFIG stand from the assertion on, where R170 has them at its end, and
that a power-on ends the pin's own assertion, are the model's choices (log 20). -/
def Obligations.ResetLeavesListedValues : Prop :=
  AtResetValues State.reset ∧
  (∀ (low : Bool) (sram : List Host.Cell) (errors : List (Nat × ErrorMask)) (s : State),
    ∃ t, exec (.powerOn low sram errors) s = .next t ∧ AtResetValues t ∧ t.resetPin = false ∧ t.linkWaits = low) ∧
  (∀ (words : Nat) (s : State), s.resetPin = false →
    ∃ t, exec (.resetPinAssert words) s = .next t ∧ AtResetValues t ∧ t.resetPin = true) ∧
  ∀ (low : Bool) (s : State), s.resetPin = true →
    ∃ t, exec (.resetPinDeassert low) s = .next t ∧ AtResetValues t ∧ t.resetPin = false ∧ t.linkWaits = low ∧
      t.memory = s.memory

/-- While the RESET pin is asserted no event but power-on and the end of the assertion has an effect, and the row of a
command that is not the one at its checks has none (the model's choices of log 1, log 3 and log 20). -/
def Obligations.EventsThatCannotOccurDoNothing : Prop :=
  (∀ (c : Instr) (s : State), s.resetPin = true → isResetEvent c = false → exec c s = .next s) ∧
  ∀ (s : State) (x : Instr × Byte), x ∈ allCommands →
    (∀ c, s.engine = .checking c → c.code ≠ x.2) → exec x.1 s = .next s

/-- Record memory across power-on and the RESET pin: at power-on it is what the SRAM holds, which the event carries (the
model's form, log 11); an assertion leaves the memory as it was but for a write that it cuts short, whose image then has
some words new, each with fresh check bits, and some old (R88, R89). That the words so written are the leading words, at
most fifteen, of the oldest write in flight, and that no word is cut in its middle, is the model's deduction (log 12), no
sentence of the spec. -/
def Obligations.MemoryAcrossReset : Prop :=
  (∀ (low : Bool) (sram : List Host.Cell) (errors : List (Nat × ErrorMask)) (s t : State),
    Memory.wf ⟨sram, errors⟩ → exec (.powerOn low sram errors) s = .next t → t.memory = ⟨sram, errors⟩) ∧
  (∀ (words : Nat) (s t : State), s.resetPin = false → exec (.resetPinAssert words) s = .next t →
    (∀ x rest, s.inFlight = x :: rest → writeInFlight s x = none) → t.memory = s.memory) ∧
  ∀ (words n : Nat) (copy : Record) (x : Txn) (rest : List Txn) (s t : State), s.resetPin = false →
    exec (.resetPinAssert words) s = .next t → s.inFlight = x :: rest → writeInFlight s x = some (n, copy) →
    n < Config.maxRecords →
    (∀ a, a < 128 * n ∨ 128 * n + 120 ≤ a → t.memory.readByte a = s.memory.readByte a) ∧
    (∀ k, k < 16 → t.memory.readWord (16 * n + k) =
      if k < words ∧ k < 15 then (encodeImage copy).getD k 0 else s.memory.readWord (16 * n + k)) ∧
    ∀ w, t.memory.errorAt w =
      if 16 * n ≤ w ∧ w < 16 * n + min words 15 then 0 else s.memory.errorAt w

/-- The Time Base's count: 0 at power-on and at the RESET pin, one more at each TICK in every device state, 0 after
2^48 - 1, and unchanged by every other event; the tick period is 1 at power-on and at the RESET pin and stays within 1
to 1000 (R23). -/
def Obligations.TimeBaseCounts : Prop :=
  (∀ s : State, s.resetPin = false →
    ∃ t, exec .tick s = .next t ∧ t.now = s.now + 1 ∧ (s.now = BitVec.allOnes 48 → t.now = 0)) ∧
  (∀ (c : Instr) (s t : State), exec c s = .next t → isResetEvent c = false → c ≠ .tick → t.now = s.now) ∧
  (∀ (c : Instr) (s t : State), exec c s = .next t → 1 ≤ s.setup.tickPeriod → s.setup.tickPeriod ≤ 1000 →
    1 ≤ t.setup.tickPeriod ∧ t.setup.tickPeriod ≤ 1000) ∧
  (∀ (low : Bool) (sram : List Host.Cell) (errors : List (Nat × ErrorMask)) (s t : State),
    exec (.powerOn low sram errors) s = .next t → t.now = 0 ∧ t.setup.tickPeriod = 1) ∧
  (∀ (words : Nat) (s t : State), s.resetPin = false → exec (.resetPinAssert words) s = .next t →
    t.now = 0 ∧ t.setup.tickPeriod = 1) ∧
  ∀ (low : Bool) (s t : State), s.resetPin = true → exec (.resetPinDeassert low) s = .next t →
    t.now = 0 ∧ t.setup.tickPeriod = 1

/-! ### The sweep -/

/-- The next occupied record: the lowest-numbered set entry beyond the sweep position, else the lowest-numbered set
entry; none where the map holds none. A sweep step that begins a visit makes the number chosen the sweep position, and
leaves the position where the map holds none (R104). -/
def Obligations.NextOccupiedRecord : Prop :=
  (∀ (occupancy : List Nat) (position : Nat),
    (nextOccupied occupancy position = none ↔ occupancy = []) ∧
    ∀ n, nextOccupied occupancy position = some n →
      n ∈ occupancy ∧
      ((∃ m ∈ occupancy, position < m) → position < n ∧ ∀ m ∈ occupancy, position < m → n ≤ m) ∧
      ((∀ m ∈ occupancy, m ≤ position) → ∀ m ∈ occupancy, n ≤ m)) ∧
  ∀ (v : VisitEvents) (s : State), s.resetPin = false → s.device = .running → s.setup.sweepInterval ≤ s.interval →
    s.hold = .none →
    ∃ t, exec (.sweepStep v) s = .next t ∧
      t.sweepPos =
        match nextOccupied s.occupancy s.sweepPos with
        | some n => n
        | none => s.sweepPos

/-- SWEEP_STEP: remembered while a visit is in progress; otherwise the next occupied record is chosen, its number
becomes the sweep position, and its visit is placed by its standing (R103 to R108). Between the choice and the claim of a
visit to a resident record the claims of record commands may fall, as many as the operand says, each as the command's own
event would take it; the visit then meets the record they leave, and a RETIRE among them leaves it VACANT, so that the
visit does nothing (R104, R107, R115). That they are an operand, and that a command which has no claim at that moment
falls before the step or after it, is the model's form (log 34). A step that is not due has no effect (log 4). TICK
leaves the count, the period of the tick now in progress (R24) and the interval count, which advances in RUNNING alone
(R102), and nothing else; a sweep step that is due and not yet taken is taken first (the model's choice, log 4). -/
def Obligations.SweepStepResult : Prop :=
  (∀ (v : VisitEvents) (s : State), s.resetPin = false →
    (¬(s.device = .running ∧ s.setup.sweepInterval ≤ s.interval) → exec (.sweepStep v) s = .next s) ∧
    (s.device = .running → s.setup.sweepInterval ≤ s.interval →
      (s.hold ≠ .none → exec (.sweepStep v) s = .next { s with interval := 0, remembered := true }) ∧
      (s.hold = .none → s.occupancy = [] → exec (.sweepStep v) s = .next { s with interval := 0 }) ∧
      ∀ n, s.hold = .none → nextOccupied s.occupancy s.sweepPos = some n →
        (standing s n = .named ∨ standing s n = .evicting →
          exec (.sweepStep v) s = .next { s with interval := 0, sweepPos := n }) ∧
        (standing s n = .absent →
          exec (.sweepStep v) s = .next
            { s with interval := 0, sweepPos := n, hold := .reading n, sweepReq := some (.read n) }) ∧
        ∀ i, standing s n = .resident i →
          ∀ u, claimsWithin v.claims { s with interval := 0, sweepPos := n } = u →
            ∀ r d f p, lineAt u.lines i = .valid n r d f p →
              ∀ x, visitActions v u n r = x →
                exec (.sweepStep v) s = .next
                  { x.1 with
                    lines := x.1.lines.set i.val
                      (.valid n x.2 (d || x.2 != r) f (p && (r.state == .vacant || x.2.state != .vacant))) i.isLt })) ∧
  ((∀ s : State, claimsWithin 0 s = s) ∧
    (∀ (k : Nat) (s t : State) (c : Command) (i : Instr),
      ((∃ x ∈ recordCommands, x.1 = i ∧ Current s c x.2) ∨
        (i = .commandStepRetry ∧ s.resetPin = false ∧ s.engine = .waitingForEntry c)) →
      exec i s = .next t →
      ((∀ d, t.engine ≠ .waitingForEntry d ∧ t.engine ≠ .waitingOnEntry d) →
        claimsWithin (k + 1) s = claimsWithin k t) ∧
      ((∃ d, t.engine = .waitingForEntry d ∨ t.engine = .waitingOnEntry d) →
        claimsWithin (k + 1) s = claimsWithin k s)) ∧
    ∀ (k : Nat) (s : State), (∀ c, s.engine ≠ .waitingForEntry c) →
      (∀ c, s.engine = .checking c → ∀ x ∈ recordCommands, c.code ≠ x.2) →
      claimsWithin (k + 1) s = claimsWithin k s) ∧
  (∀ (s u : State) (c : Command) (n : Nat) (i : Fin 64) (r : Record) (d f p : Bool),
    RecordCommand s c codeRetire n → s.setup.guard ≤ n → ResidentIn s n i r d f p →
    r.state = .faulted ∨ (r.admitted = true ∧ field16 c.params 2 = r.generation) →
    s.setup.sweepInterval ≤ s.interval → s.hold = .none → nextOccupied s.occupancy s.sweepPos = some n →
    exec .retire { s with interval := 0, sweepPos := n } = .next u →
    exec (.sweepStep { VisitEvents.none with claims := 1 }) s = .next u ∧ u.sweepPos = n ∧ n ∉ u.occupancy ∧
      ∃ q, lineAt u.lines i = .valid n q true true false ∧ q.state = .vacant) ∧
  ∀ s : State, s.resetPin = false →
    (¬(s.device = .running ∧ s.setup.sweepInterval ≤ s.interval) →
      exec .tick s = .next
        { s with
          now := s.now + 1
          tickInProgress := s.setup.tickPeriod
          interval := if s.device = .running then s.interval + 1 else s.interval }) ∧
    (s.device = .running → s.setup.sweepInterval ≤ s.interval →
      ∃ u, exec (.sweepStep .none) s = .next u ∧
        exec .tick s = .next
          { u with now := s.now + 1, tickInProgress := s.setup.tickPeriod, interval := u.interval + 1 })

/-- What a visit does to a record before the moving of owed notices: a VACANT record is left; a FAULTED record's owed
notices alone are moved; any other is refreshed, and then its expiry and its idleness are judged (R110 to R113). A
NOTICE-READ may complete before the IDLE or IDLE_RETIRED offer, which then finds the room it leaves (R113, R119). That
the owed notices are then moved also where a kind became owed at this same visit, or after a refused idle retirement, and
so enter where a NOTICE-READ within the visit has made room, is the model's choice (log 37). -/
def Obligations.VisitActionsOutcome : Prop :=
  ∀ (v : VisitEvents) (s : State) (n : Nat) (r : Record),
    (r.state = .vacant → visitActions v s n r = (s, r)) ∧
    (r.state = .faulted → visitActions v s n r = moveOwed v s n r) ∧
    (r.admitted = true →
      (∀ e, r.expiry = some e → e.toNat ≤ s.now.toNat → r.state ≠ .expired →
        (s.notices.length < 16 →
          visitActions v s n r =
            moveOwed v { s with notices := s.notices ++ [⟨.expired, n, r.generation, s.now⟩] } n
              { r.refresh s.now with state := .expired }) ∧
        (16 ≤ s.notices.length →
          visitActions v s n r =
            moveOwed v { s with owedCount := if r.owed.isEmpty then s.owedCount + 1 else s.owedCount } n
              { r.refresh s.now with state := .expired, owed := { r.owed with expired := true } })) ∧
      ((r.state = .expired ∨ ∀ e, r.expiry = some e → s.now.toNat < e.toNat) →
        (¬(r.state = .active ∧ r.idleReported = false ∧
            ∃ l, r.idleLimit = some l ∧ l.toNat ≤ (s.now - r.lastSeen).toNat) →
          visitActions v s n r = moveOwed v s n (r.refresh s.now)) ∧
        ∀ l, r.state = .active → r.idleReported = false → r.idleLimit = some l →
          l.toNat ≤ (s.now - r.lastSeen).toNat →
          ∀ u, readWithin s v.idle = u →
            (r.autoRetire = false → u.notices.length < 16 →
              visitActions v s n r =
                moveOwed v { u with notices := u.notices ++ [⟨.idle, n, r.generation, s.now⟩] } n
                  { r.refresh s.now with idleReported := true }) ∧
            (r.autoRetire = false → 16 ≤ u.notices.length →
              visitActions v s n r =
                moveOwed v { u with owedCount := if r.owed.isEmpty then s.owedCount + 1 else s.owedCount } n
                  { r.refresh s.now with idleReported := true, owed := { r.owed with idle := true } }) ∧
            (r.autoRetire = true → u.notices.length < 16 →
              visitActions v s n r =
                ({ u with
                    notices := u.notices ++ [⟨.idleRetired r.owed, n, r.generation, s.now⟩]
                    occupancy := s.occupancy.filter (· != n)
                    owedCount := if r.owed.isEmpty then s.owedCount else s.owedCount - 1 },
                  { r.refresh s.now with
                    state := .vacant, generation := r.generation + 1, owed := ⟨false, false, false, false⟩ })) ∧
            (r.autoRetire = true → 16 ≤ u.notices.length →
              visitActions v s n r = moveOwed v u n (r.refresh s.now))))

/-- The offer of a notice: it enters the tail of the queue where there is room; otherwise its kind is owed on the record,
which counts one more record where its owed set was empty (R119). The moving of owed notices at a visit: the kinds owed
are offered in their order, each with the contents of R120; a NOTICE-READ may complete before each of these offers, as
the event NOTICE_READ would; a kind queued leaves the owed set, the first that finds no room ends the moving, and the
owed-record count falls when the set becomes empty (R114, R119). With no NOTICE-READ among them, as many kinds are moved
as the queue has room for, and nothing else changes. That a kind made owed at this same visit is among those offered is
the model's choice (log 37). -/
def Obligations.NoticesQueuedOrOwed : Prop :=
  (∀ (s : State) (r : Record) (k : OwedKind) (x : Notice),
    (s.notices.length < 16 → offerNotice s r k x = ({ s with notices := s.notices ++ [x] }, r)) ∧
    (16 ≤ s.notices.length →
      ∃ owed, (∀ j, owed.has j = (r.owed.has j || decide (j = k))) ∧
        offerNotice s r k x =
          ({ s with owedCount := if r.owed.isEmpty then s.owedCount + 1 else s.owedCount }, { r with owed := owed }))) ∧
  (∀ s : State, readWithin s none = s ∧
    ∀ x : ReadWithin, s.resetPin = false → exec (.noticeRead x.entered x.more) s = .next (readWithin s (some x))) ∧
  (∀ (v : VisitEvents) (s : State) (n : Nat) (r : Record),
    ∀ q, moveKinds n
        [(.expired, v.owedExpired), (.idle, v.owedIdle), (.alert, v.owedAlert), (.faulted, v.owedFaulted)] (s, r) = q →
      moveOwed v s n r =
        ({ q.1 with
            owedCount := if !r.owed.isEmpty && q.2.owed.isEmpty then q.1.owedCount - 1 else q.1.owedCount }, q.2)) ∧
  (∀ (n : Nat) (k : OwedKind) (x : Option ReadWithin) (rest : List (OwedKind × Option ReadWithin)) (s : State)
    (r : Record),
    moveKinds n [] (s, r) = (s, r) ∧
    (r.owed.has k = false → moveKinds n ((k, x) :: rest) (s, r) = moveKinds n rest (s, r)) ∧
    (r.owed.has k = true → ∀ u, readWithin s x = u →
      (u.notices.length < 16 →
        ∃ owed, (∀ j, owed.has j = (r.owed.has j && decide (j ≠ k))) ∧
          moveKinds n ((k, x) :: rest) (s, r) =
            moveKinds n rest
              ({ u with
                  notices := u.notices ++
                    [⟨match k with
                        | .expired => .expired
                        | .idle => .idle
                        | .alert => .alert r.excessDiscarded
                        | .faulted => .faulted r.faultSource r.owedLost,
                      n, r.generation, s.now⟩] },
                { r with owed := owed })) ∧
      (16 ≤ u.notices.length → moveKinds n ((k, x) :: rest) (s, r) = (u, r)))) ∧
  ∀ (s : State) (n : Nat) (r : Record),
    ∃ (owed : OwedSet),
      (∀ k, owed.has k = (r.owed.has k && !((owedKinds r.owed).take (16 - s.notices.length)).contains k)) ∧
      moveOwed .none s n r =
        ({ s with
            notices := s.notices ++
              ((owedKinds r.owed).take (16 - s.notices.length)).map fun k =>
                ⟨match k with
                  | .expired => .expired
                  | .idle => .idle
                  | .alert => .alert r.excessDiscarded
                  | .faulted => .faulted r.faultSource r.owedLost,
                  n, r.generation, s.now⟩
            owedCount := if !r.owed.isEmpty && owed.isEmpty then s.owedCount - 1 else s.owedCount },
          { r with owed := owed })

/-! ### Notices and the queues -/

/-- The notice queue, the response queue and the two FIFOs are first in first out: every event leaves each of them as
it stood with heads removed and members put behind, or empty at a reset event. Heads of the notice queue leave at
NOTICE_READ and at the NOTICE-READs within a visit alone, the response queue's at RESPONSE_READ, the Ingress FIFO's at
INGRESS_HEAD_LEAVES, the Egress FIFO's at CELL_EMIT (R118, R119, R128, R130, R163). -/
def Obligations.QueuesKeepTheirOrder : Prop :=
  ∀ (c : Instr) (s t : State), exec c s = .next t → isResetEvent c = false →
    (∃ k new, k ≤ noticeReads c ∧ t.notices = s.notices.drop k ++ new ∧ (∀ e m, c = .noticeRead e m → new = [])) ∧
    ((∃ new, t.responses = s.responses ++ new) ∨
      ((∃ e m, c = .responseRead e m) ∧ t.responses = s.responses.tail)) ∧
    ((∃ new, t.ingress = s.ingress ++ new) ∨ (c = .ingressHeadLeaves ∧ t.ingress = s.ingress.tail)) ∧
    ((∃ new, t.egress = s.egress ++ new) ∨ (c = .cellEmit ∧ t.egress = s.egress.tail))

/-! ### The cell ports and classification -/

/-- INGRESS_TRANSFER_BEGIN, PARTIAL_CELL_DROPPED and CELL_ACCEPT: a transfer begins where the ingress is open (RUNNING)
and a place is neither filled nor reserved; a start-of-cell byte drops a partial cell, whatever ingress-ready is, and
begins a new transfer where ingress-ready is asserted; the 64th byte puts the cell at the tail of the Ingress FIFO and
counts it (R126, R127). Where no transfer is in progress no cell is accepted or cut short (the model's choice of log
1). CELL_EMIT: the head cell is emitted, its place is free, and emitted and the counter of its disposition rise by one
(R130, R133); on an empty Egress FIFO it leaves the state as it was (the model's choice, log 1). -/
def Obligations.CellPortTransfers : Prop :=
  (∀ (s : State) (first : Byte) (rest : Vector Byte 63), s.resetPin = false →
    (s.device = .running → s.ingress.length + s.transfer.toList.length < 16 →
      exec (.ingressTransferBegin first) s = .next { s with transfer := some first } ∧
      (∀ b, s.transfer = some b → exec (.partialCellDropped first) s = .next { s with transfer := some first })) ∧
    (¬(s.device = .running ∧ s.ingress.length + s.transfer.toList.length < 16) →
      exec (.ingressTransferBegin first) s = .next { s with transfer := none } ∧
      ∀ b, s.transfer = some b → exec (.partialCellDropped first) s = .next { s with transfer := none }) ∧
    (∀ b, s.transfer = some b →
      ∃ cell : Cell, cell[0] = b ∧ (∀ k : Fin 63, cell[k.val + 1] = rest[k]) ∧
        exec (.cellAccept rest) s = .next
          { s with
            transfer := none
            ingress := s.ingress ++ [cell]
            ports := { s.ports with accepted := s.ports.accepted + 1 }
            cellsInside := s.cellsInside + 1 }) ∧
    (s.transfer = none →
      exec (.cellAccept rest) s = .next s ∧ exec (.partialCellDropped first) s = .next s)) ∧
  ∀ s : State, s.resetPin = false →
    (s.egress = [] → exec .cellEmit s = .next s) ∧
    ∀ x rest, s.egress = x :: rest →
      exec .cellEmit s = .next
        { s with
          egress := rest
          egressOut := some x.cell
          cellsInside := s.cellsInside - 1
          ports :=
            { s.ports with
              emitted := s.ports.emitted + 1
              passed := if x.disposition = .pass then s.ports.passed + 1 else s.ports.passed
              marked := if x.disposition = .mark then s.ports.marked + 1 else s.ports.marked
              unpoliced := if x.disposition = .unpoliced then s.ports.unpoliced + 1 else s.ports.unpoliced } }

/-- The Label Map: rule `k` gives the record number where it is the first that is enabled, agrees with the label in
every bit its mask selects, and gives an index within its range length; the index is the field width bits of the
label from the field position (R48, R49, R50). -/
def Obligations.LabelMapLookup : Prop :=
  ∀ (rules : Vector Rule 16) (label : BitVec 24),
    let maps (r : Rule) (n : Nat) : Prop :=
      r.enable = true ∧ (∀ j, r.maskLabel.getLsbD j = true → label.getLsbD j = r.matchLabel.getLsbD j) ∧
        ∃ index, index < r.rangeLength ∧ n = r.recordBase + index ∧ index < 2 ^ r.fieldWidth ∧
          ∀ j, j < r.fieldWidth → index.testBit j = label.getLsbD (r.fieldPosition + j)
    ∀ n, mapLabel rules label = some n ↔
      ∃ k : Fin 16, maps rules[k] n ∧ ∀ j : Fin 16, j < k → ∀ m, ¬maps rules[j] m

/-- A cell leaves the Ingress FIFO: a bad header check discards it; a cell with no record number, or whose Occupancy
Map entry is clear, is disposed of under the unadmitted policy; any other is offered to the Record Store (R51 to R53,
R128). -/
def Obligations.IngressHeadResult : Prop :=
  ∀ (s : State) (c : Cell) (rest : List Cell), s.resetPin = false →
    (s.device = .running ∨ s.device = .restarting) → s.stage = none → s.ingress = c :: rest →
    (headerCrc c ≠ cellCheck c →
      exec .ingressHeadLeaves s = .next
        { s with
          ingress := rest, ports := { s.ports with header := s.ports.header + 1 }
          cellsInside := s.cellsInside - 1 }) ∧
    (headerCrc c = cellCheck c →
      (mapLabel s.rules (cellLabel c) = none →
        (s.setup.unadmitted = .discard →
          exec .ingressHeadLeaves s = .next
            { s with
              ingress := rest, ports := { s.ports with noRule := s.ports.noRule + 1 }
              cellsInside := s.cellsInside - 1 }) ∧
        (s.setup.unadmitted = .pass →
          exec .ingressHeadLeaves s = .next { s with ingress := rest, stage := some (.unpoliced c none) })) ∧
      ∀ n, mapLabel s.rules (cellLabel c) = some n →
        (n ∉ s.occupancy →
          (s.setup.unadmitted = .discard →
            exec .ingressHeadLeaves s = .next
              { s with
                ingress := rest, ports := { s.ports with unadmitted := s.ports.unadmitted + 1 }
                cellsInside := s.cellsInside - 1 }) ∧
          (s.setup.unadmitted = .pass →
            exec .ingressHeadLeaves s = .next { s with ingress := rest, stage := some (.unpoliced c (some n)) })) ∧
        (n ∈ s.occupancy →
          exec .ingressHeadLeaves s = .next (offerCell { s with ingress := rest } c n)))

/-- The Record Store's answer to a cell offered: it waits for its direct evaluation, joins the record's entry, opens
an entry, or is disposed of under the miss overflow policy (R66, R75, R79, R80). -/
def Obligations.CellOfferAnswered : Prop :=
  ∀ (s : State) (c : Cell) (n : Nat),
    (∀ before e after, EntryAt s.missTable n before e after →
      (pendingTaken s < 32 →
        offerCell s c n =
          { s with
            stage := none
            missTable := before ++ { e with waiters := e.waiters ++ [.cell c] } :: after }) ∧
      (32 ≤ pendingTaken s →
        offerCell s c n =
          { s with
            stage := none, ports := { s.ports with missOverflow := s.ports.missOverflow + 1 }
            cellsInside := s.cellsInside - 1 })) ∧
    (∀ i, standing s n = .resident i → offerCell s c n = { s with stage := some (.direct c n) }) ∧
    (standing s n = .evicting ∨ standing s n = .held ∨ standing s n = .absent →
      (pendingTaken s < 32 → s.missTable.length < 8 →
        ∀ t, openEntry s n (standing s n).phase (.cell c) = some t → offerCell s c n = { t with stage := none }) ∧
      (32 ≤ pendingTaken s ∨ 8 ≤ s.missTable.length →
        (s.setup.overflow = .discard →
          offerCell s c n =
            { s with
              stage := none, ports := { s.ports with missOverflow := s.ports.missOverflow + 1 }
              cellsInside := s.cellsInside - 1 }) ∧
        (s.setup.overflow = .pass → offerCell s c n = { s with stage := some (.unpoliced c (some n)) })))

/-! ### The Record Store -/

/-- The opening of an entry: its fields, its first waiter, the misses counter, the target line of victim selection, and
the fill read, requested at once where the phase is READING and the line FILLING; the phase is that of the standing
found (R71, R72). Victim selection: the lowest-numbered EMPTY line, with the hand unmoved; with none EMPTY, the first
line from the hand on that is VALID, unpinned, no target line and unreferenced, or, where each such line is referenced,
the first of them, each of them passed over having its referenced flag cleared; a dirty victim becomes EVICTING and
its write-back is requested, a clean one FILLING; the hand rests past it (R67). -/
def Obligations.EntryOpenedOnVictim : Prop :=
  ((Standing.evicting.phase = .waitEvict ∧ Standing.held.phase = .waitSweep ∧ Standing.absent.phase = .reading) ∧
  ∀ (s : State) (n : Nat) (phase : Phase) (w : Waiter) (v : Victim), selectVictim s n = some v →
    openEntry s n phase w = some
      { s with
        lines := v.lines
        hand := v.hand
        missTable := s.missTable ++
          [{ number := n, phase := phase, target := v.target, fillDone := false, waiters := [w] }]
        cacheQ := s.cacheQ ++ v.request ++
          (if phase = .reading ∧ (lineAt v.lines v.target).isFilling = true then [.fill n] else [])
        stats := { s.stats with misses := s.stats.misses + 1 } }) ∧
  ∀ (s : State) (n : Nat),
    (∀ i : Fin 64, lineAt s.lines i = .empty → (∀ j : Fin 64, j < i → lineAt s.lines j ≠ .empty) →
      selectVictim s n = some ⟨i, s.lines.set i.val (.filling n) i.isLt, s.hand, []⟩) ∧
    ((∀ i : Fin 64, lineAt s.lines i ≠ .empty) →
      let may (i : Fin 64) : Bool := choosable s.missTable (lineAt s.lines i) i
      ∀ (k : Nat) (old : Nat) (r : Record) (d f p : Bool), k < 64 →
        lineAt s.lines (past s.hand k) = .valid old r d f p → may (past s.hand k) = true →
        ((f = false ∧ ∀ j, j < k → may (past s.hand j) = true → referenced (lineAt s.lines (past s.hand j)) = true) ∨
          ((∀ i, may i = true → referenced (lineAt s.lines i) = true) ∧ ∀ j, j < k → may (past s.hand j) = false)) →
        ∃ v, selectVictim s n = some v ∧ v.target = past s.hand k ∧ v.hand = past s.hand (k + 1) ∧
          v.request = (if d then [.writeBack (past s.hand k)] else []) ∧
          lineAt v.lines (past s.hand k) = (if d then .evicting old r n else .filling n) ∧
          ∀ i, i ≠ past s.hand k →
            lineAt v.lines i =
              if may i = true ∧ (f = true ∨ ∃ j, j < k ∧ i = past s.hand j) then unreferenced (lineAt s.lines i)
              else lineAt s.lines i)

/-- Victim selection for a miss always ends with a line chosen, where at most 48 lines are pinned, at most 7 entries
exist and every EVICTING or FILLING line belongs to one of them (R68). -/
def Obligations.VictimAlwaysChosen : Prop :=
  ∀ (s : State) (n : Nat), pinnedCount s ≤ 48 → s.missTable.length ≤ 7 →
    (∀ i : Fin 64, reservedLine (lineAt s.lines i) = true → isTarget s.missTable i = true) →
    (selectVictim s n).isSome = true

/-! ### Evaluation -/

/-- The refresh, and that refreshes compose: a refresh at t1 followed by one at t2 leaves what one at t2 leaves, where
the ticks between do not wrap past the last update (R27). -/
def Obligations.RefreshResult : Prop :=
  (∀ (r : Record) (now : Tick),
    (r.refresh now).budget.toNat =
        min r.depth.toNat (r.budget.toNat + (now - r.lastUpdate).toNat * r.sustainedRate.toNat) ∧
      r.refresh now = { r with budget := (r.refresh now).budget, lastUpdate := now }) ∧
  ∀ (r : Record) (t1 t2 : Tick),
    (t1 - r.lastUpdate).toNat + (t2 - t1).toNat < 2 ^ 48 → (r.refresh t1).refresh t2 = r.refresh t2

/-- Steps 1 to 4 of an evaluation: which cells are discarded without reaching the contract, for which reason, and what
the record then holds, its counter saturating (R29 to R32, R11); a cell is given PASS or MARK under a record only if
that record was ACTIVE (R43). -/
def Obligations.EvaluationDiscards : Prop :=
  (∀ c : RecordCounter, (satInc c).toNat = min (c.toNat + 1) 4294967295) ∧
  (∀ (r : Record) (label : BitVec 24) (now : Tick),
    (r.state = .vacant → evaluate r label now = ⟨r, .discard .unadmitted, false, none⟩) ∧
    (r.state = .faulted → evaluate r label now = ⟨r, .discard .fault, false, none⟩) ∧
    (r.admitted = true → label ≠ r.label → evaluate r label now = ⟨r, .discard .mismatch, false, none⟩) ∧
    (r.state = .held ∨ r.state = .expired → label = r.label →
      evaluate r label now =
        ⟨{ r with stateDiscarded := satInc r.stateDiscarded, lastSeen := now }, .discard .state, true, none⟩) ∧
    ∀ e, r.state = .active → label = r.label → r.expiry = some e → e.toNat ≤ now.toNat →
      evaluate r label now =
        ⟨{ r with state := .expired, stateDiscarded := satInc r.stateDiscarded, lastSeen := now },
          .discard .state, true, some (.expired, .expired)⟩) ∧
  ∀ (r : Record) (label : BitVec 24) (now : Tick),
    (evaluate r label now).verdict = .pass ∨ (evaluate r label now).verdict = .mark →
    r.state = .active ∧ label = r.label ∧ ∀ e, r.expiry = some e → now.toNat < e.toNat

/-- Steps 5 to 10 of an evaluation: the refresh, the peak check, the sustained check, the outcome by the action of the
check violated, last seen with idle reported, and the alert (R33 to R39); the record counters saturate (R11). -/
def Obligations.EvaluationUnderContract : Prop :=
  (∀ c : RecordCounter, (satInc c).toNat = min (c.toNat + 1) 4294967295) ∧
  ∀ (r : Record) (now : Tick), r.state = .active → (∀ e, r.expiry = some e → now.toNat < e.toNat) →
    let fresh := r.refresh now
    let peak : Prop := r.peakInterval ≠ 0 ∧
      ∃ last, r.lastConform = some last ∧ (now - last).toNat < r.peakInterval.toNat - r.peakTolerance.toNat
    let under : Prop := fresh.budget.toNat < 4096
    let seen (q : Record) : Record := { q with lastSeen := now, idleReported := false }
    let ends (q : Record) (v : Verdict) : Prop :=
      ((∃ t, q.alertThreshold = some t ∧ q.alertFired = false ∧ t.toNat ≤ q.excessDiscarded.toNat) →
        evaluate r r.label now =
          ⟨{ seen q with alertFired := true }, v, true, some (.alert, .alert q.excessDiscarded)⟩) ∧
      (¬(∃ t, q.alertThreshold = some t ∧ q.alertFired = false ∧ t.toNat ≤ q.excessDiscarded.toNat) →
        evaluate r r.label now = ⟨seen q, v, true, none⟩)
    (¬peak → ¬under →
      ends { fresh with budget := fresh.budget - 4096, lastConform := some now, passed := satInc r.passed } .pass) ∧
    ((peak ∧ r.peakAction = 0) ∨ (¬peak ∧ under ∧ r.sustainedAction = 0) →
      ends { fresh with marked := satInc r.marked } .mark) ∧
    ((peak ∧ r.peakAction = 1) ∨ (¬peak ∧ under ∧ r.sustainedAction = 1) →
      ends { fresh with excessDiscarded := satInc r.excessDiscarded } (.discard .excess))

/-- MARK sets the mark flag and recomputes the header check over bytes 0 to 3; no other bit of the cell changes, the
check agrees, and a cell so marked is marked no further; a cell given MARK fills its place so changed, one given PASS
or UNPOLICED as it arrived (R131); the check value of the digits 1 to 9 is 29B1h (R179, R180). -/
def Obligations.MarkedHeader : Prop :=
  crc16 [0x31, 0x32, 0x33, 0x34, 0x35, 0x36, 0x37, 0x38, 0x39] = 0x29B1 ∧
  ∀ cell : Cell,
    (∀ k : Fin 64, k.val ≠ 3 → k.val ≠ 4 → k.val ≠ 5 → (markCell cell)[k] = cell[k]) ∧
    (markCell cell)[3] = cell[3] ||| 1 ∧ headerCrc (markCell cell) = cellCheck (markCell cell) ∧
    cellMark (markCell cell) = true ∧ cellLabel (markCell cell) = cellLabel cell ∧
    (cellMark cell = true → headerCrc cell = cellCheck cell → markCell cell = cell) ∧
    ∀ s : State,
      settleCell s cell .mark = { s with egress := s.egress ++ [⟨markCell cell, .mark⟩] } ∧
      settleCell s cell .pass = { s with egress := s.egress ++ [⟨cell, .pass⟩] } ∧
      ∀ n, s.resetPin = false → s.egress.length < 16 → s.stage = some (.unpoliced cell n) →
        ∃ t, exec (.egressPlaceGrant .stage) s = .next t ∧ t.egress = s.egress ++ [⟨cell, .unpoliced⟩]

/-- A place is given to the classification stage: an UNPOLICED cell fills it; a cell whose record is still resident is
evaluated in one claim, which counts a hit; a cell whose record's standing has changed is answered as at an offer
(R28, R40, R41, R53, R81). With no free place none is given (R129), and a grant to an empty stage leaves the state as it
was (the model's choice, log 1). -/
def Obligations.StageGivenPlace : Prop :=
  ∀ s : State, s.resetPin = false →
    (16 ≤ s.egress.length → ∀ who, exec (.egressPlaceGrant who) s = .next s) ∧
    (s.stage = none → exec (.egressPlaceGrant .stage) s = .next s) ∧
    (s.egress.length < 16 →
      (∀ c m, s.stage = some (.unpoliced c m) →
        exec (.egressPlaceGrant .stage) s =
          .next { s with stage := none, egress := s.egress ++ [⟨c, .unpoliced⟩] }) ∧
      ∀ c n, s.stage = some (.direct c n) →
        (∀ i r d f p, ResidentIn s n i r d f p →
          ∀ j, evaluate r (cellLabel c) s.now = j →
            ∀ q, (match j.notice with
                | none => (s, j.copy)
                | some (k, body) => offerNotice s j.copy k ⟨body, n, j.copy.generation, s.now⟩) = q →
              exec (.egressPlaceGrant .stage) s =
                .next (settled { claimed q.1 i n q.2 (d || j.touched) p with stage := none } c j.verdict)) ∧
        ((∀ i, standing s n ≠ .resident i) → exec (.egressPlaceGrant .stage) s = .next (offerCell s c n)))

/-- A place is given to the head waiting cell of an entry whose fill is done: its evaluation is taken as a claim on
the target line, its slot is freed, and a command step behind it is served; the entry is freed with its last waiter
(R74). -/
def Obligations.EntryHeadGivenPlace : Prop :=
  ∀ (s : State) (n : Nat) (before : List Entry) (e : Entry) (after : List Entry) (c : Cell) (ws : List Waiter)
    (r : Record) (d f p : Bool),
    s.resetPin = false → s.egress.length < 16 → EntryAt s.missTable n before e after → e.fillDone = true →
    e.waiters = .cell c :: ws → lineAt s.lines e.target = .valid n r d f p →
    ∀ j, evaluate r (cellLabel c) s.now = j →
      ∀ q, (match j.notice with
          | none => (s, j.copy)
          | some (k, body) => offerNotice s j.copy k ⟨body, n, j.copy.generation, s.now⟩) = q →
        exec (.egressPlaceGrant (.entry n)) s =
          .next (serveCommand
            (settled
              { q.1 with
                missTable := served before e ws after
                lines := s.lines.set e.target.val (.valid n q.2 (d || j.touched) true p) e.target.isLt } c j.verdict)
            n)

/-- A command step at the head of an entry whose line is VALID has its claim taken at once; with a cell at the head, or
with no entry, nothing is served (R74). A claim served so decides as one taken at once on a resident record, but that
a QUERY then reports resident no; and a command that met the fault of its own entry's fill is answered FAULTED and
changes nothing, unless it is RETIRE or QUERY (R95, R140, R155). -/
def Obligations.EntryHeadCommandServed : Prop :=
  (∀ (s : State) (n : Nat),
    ((∀ x ∈ s.missTable, x.number ≠ n) → serveCommand s n = s) ∧
    ∀ before e after, EntryAt s.missTable n before e after →
      (∀ c ws, e.waiters = .cell c :: ws → serveCommand s n = s) ∧
      ∀ met ws r d f p c, e.waiters = .command met :: ws → lineAt s.lines e.target = .valid n r d f p →
        s.engine = .waitingOnEntry c →
        ∀ k, claimOf { s with missTable := served before e ws after } ⟨n, r, p, false, met⟩ c = k →
          serveCommand s n =
            answered
              { k.state with
                lines := k.state.lines.set e.target.val (.valid n k.copy (d || k.copy != r) true k.pinned) e.target.isLt }
              c k.outcome k.payload) ∧
  ∀ (s : State) (m : Met) (c : Command) (b : Bool),
    (c.code ≠ codeQuery → claimOf s { m with resident := b } c = claimOf s m c) ∧
    (∀ x ∈ recordCommands, c.code = x.2 → x.2 ≠ codeRetire → x.2 ≠ codeQuery →
      claimOf s { m with metFault := true } c = ⟨s, m.copy, m.pinned, .faulted, []⟩) ∧
    (c.code = codeRetire ∨ c.code = codeQuery → claimOf s { m with metFault := b } c = claimOf s m c)

/-! ### Record memory -/

/-- MEMORY_ISSUE: with fewer than 4 transactions in flight, the oldest cache request is issued, or the sweep request
where none waits; in a pass, its writes ahead of its reads, each in order of record number below the capacity; with 4
in flight nothing is issued (R83, R98 to R100). With nothing to issue the event leaves the state as it was (the model's
choice, log 1). -/
def Obligations.MemoryIssueOrder : Prop :=
  ∀ s : State, s.resetPin = false →
    (4 ≤ s.inFlight.length → exec .memoryIssue s = .next s) ∧
    (s.inFlight.length < 4 →
      (s.pass = .none →
        (∀ n rest, s.cacheQ = .fill n :: rest →
          exec .memoryIssue s = .next { s with cacheQ := rest, inFlight := s.inFlight ++ [.fill n] }) ∧
        (∀ i rest, s.cacheQ = .writeBack i :: rest →
          exec .memoryIssue s = .next { s with cacheQ := rest, inFlight := s.inFlight ++ [.writeBack i] }) ∧
        (s.cacheQ = [] →
          (∀ n, s.sweepReq = some (.read n) →
            exec .memoryIssue s = .next { s with sweepReq := none, inFlight := s.inFlight ++ [.sweepRead n] }) ∧
          (∀ n, s.sweepReq = some (.write n) →
            exec .memoryIssue s = .next { s with sweepReq := none, inFlight := s.inFlight ++ [.sweepWrite n] }) ∧
          (s.sweepReq = none → exec .memoryIssue s = .next s))) ∧
      (∀ n, s.pass = .format n →
        (n < s.setup.capacity →
          exec .memoryIssue s = .next
            { s with pass := .format (n + 1), inFlight := s.inFlight ++ [.formatWrite n] }) ∧
        (s.setup.capacity ≤ n → exec .memoryIssue s = .next s)) ∧
      ∀ n counts writes, s.pass = .resume n counts writes →
        (∀ m r more, writes = (m, r) :: more →
          exec .memoryIssue s = .next
            { s with pass := .resume n counts more, inFlight := s.inFlight ++ [.resumeWrite m r] }) ∧
        (writes = [] → n < s.setup.capacity →
          exec .memoryIssue s = .next
            { s with pass := .resume (n + 1) counts [], inFlight := s.inFlight ++ [.resumeRead n] }) ∧
        (writes = [] → s.setup.capacity ≤ n → exec .memoryIssue s = .next s))

/-- The write of an image: the sixteen words of the record hold the copy's image without error, and every other byte
and word of the memory stays as it was (R88, R89). The image's layout loses nothing: the sixteen words written for a
record that is not FAULTED read back as that record, and those of a FAULTED record give back its state, generation,
generation known, fault source, owed set lost and owed set (R183, R89). -/
def Obligations.ImageWritten : Prop :=
  (∀ (s : State) (n : Nat) (r : Record), n < Config.maxRecords →
    ∃ m, writeImage s n r = { s with memory := m } ∧
      (∀ k, k < 16 → m.readWord (16 * n + k) = (encodeImage r).getD k 0 ∧ m.errorAt (16 * n + k) = 0) ∧
      (∀ a, a < 128 * n ∨ 128 * n + 128 ≤ a → m.readByte a = s.memory.readByte a) ∧
      ∀ w, w < 16 * n ∨ 16 * n + 16 ≤ w → m.errorAt w = s.memory.errorAt w) ∧
  ∀ r : Record,
    (encodeImage r).length = 16 ∧
    (∀ k, k < 16 → owedCopy k ((encodeImage r).getD k 0) = r.owed) ∧
    RecState.ofCode (((encodeImage r).getD 0 0).extractLsb' 0 3) = some r.state ∧
    (r.state ≠ .faulted → decodeRecord r.state (encodeImage r) = r) ∧
    (r.state = .faulted →
      decodeRecord .faulted (encodeImage r) =
        { Record.blank with
          state := .faulted, generation := r.generation, generationKnown := r.generationKnown, owed := r.owed,
          faultSource := r.faultSource, owedLost := r.owedLost })

/-- What a write of a record has put in record memory, a fill read or a sweep read of the occupied record brings back,
whole, also where one word of it has one bit in error, which is counted corrected (R89, R90, R96). With two bits in
error in a word the read makes the record FAULTED: the generation of word 0, or 65535 where that word is lost, the owed
set of the lowest-numbered readable word, the fields without meaning 0 (log 10), and one uncorrectable error counted
(R90, R92). And every read, of whatever the image holds, forms its copy so: a word without error is clean, one with one
bit in error corrected, one with two uncorrectable (R90); a fill read of a record whose map entry is clear forms a VACANT
copy (R91); an image whose word 0 is readable and holds FAULTED gives that FAULTED record (R93); a RESUME read of a
readable VACANT word 0 gives a VACANT record (R99), whose owed set is empty (the model's deduction, log 23); any other
image with an uncorrectable word, a state that is none, VACANT, or a value outside its range makes the record FAULTED
(R92), the owed set lost where no word is readable; and the rest are as the image says. The copy of a fill is dirty and
that of a RESUME read repaired as R91, R93, R95, R96 and R100 give, and the two error counters follow (R86). -/
def Obligations.ReadsAfterWrites : Prop :=
  ((∀ (s : State) (n : Nat) (r : Record) (source : FaultSource), n < Config.maxRecords →
    source = .fill ∨ source = .sweep → r.admitted = true → r.outOfRange = false →
    ((readImage (writeImage s n r) n source false []).2 =
      { copy := r, becameFaulted := false, corrected := 0, dirty := false, repair := false }) ∧
    ∀ (word : Nat) (bit : Nat), word < 16 → bit < 72 →
      (readImage (writeImage s n r) n source false [(word, 1#72 <<< bit)]).2 =
        { copy := r, becameFaulted := false, corrected := 1, dirty := true, repair := true }) ∧
  ∀ (s : State) (n : Nat) (r : Record) (source : FaultSource) (word a b : Nat), n < Config.maxRecords →
    source = .fill ∨ source = .sweep → r.admitted = true → word < 16 → a < b → b < 72 →
    ∃ t f, readImage (writeImage s n r) n source false [(word, 1#72 <<< a ||| 1#72 <<< b)] = (t, f) ∧
      f.becameFaulted = true ∧ f.dirty = true ∧
      f.copy =
        { Record.blank with
          state := .faulted, generation := if word = 0 then 65535 else r.generation,
          generationKnown := decide (word ≠ 0), owed := r.owed, faultSource := source, owedLost := false } ∧
      t.stats = { s.stats with uncorrectableErrors := s.stats.uncorrectableErrors + 1 }) ∧
  (∀ (d : DataWord) (e : ErrorMask),
    (errorCount e = 0 → checkWord d e = .clean d) ∧ (errorCount e = 1 → checkWord d e = .corrected d) ∧
      (errorCount e = 2 → checkWord d e = .uncorrectable)) ∧
  ∀ (s : State) (n : Nat) (source : FaultSource) (vacant : Bool) (damage : Damage) (t : State) (x : Formed)
    (check : Nat → WordCheck),
    readImage s n source vacant damage = (t, x) →
    (∀ k, check k =
      checkWord ((s.memory.addDamage n damage).readWord (16 * n + k))
        ((s.memory.addDamage n damage).errorAt (16 * n + k))) →
    let words : List DataWord := (List.range 16).map fun k => (check k).dataOr 0
    let code : BitVec 3 := (words.getD 0 0).extractLsb' 0 3
    let generation : BitVec 16 := (words.getD 0 0).extractLsb' 16 16
    let readable (k : Nat) : Prop := (check k).readable = true
    let lost : Prop := ∃ k, k < 16 ∧ ¬readable k
    let fixed : Nat := (List.range 16).countP fun k => (check k).wasCorrected
    let wrong (r : Record) : Prop :=
      r.depth.toNat < 4096 ∨ r.depth.toNat < r.budget.toNat ∨ 1 < r.peakAction.toNat ∨ 1 < r.sustainedAction.toNat ∨
        r.idleLimit = some 0 ∨ r.alertThreshold = some 0
    let faults : Prop :=
      lost ∨ code = 0 ∨ RecState.ofCode code = none ∨ ∀ st, RecState.ofCode code = some st → wrong (decodeRecord st words)
    (x.corrected = fixed ∧
      t =
        { s with
          memory := s.memory.addDamage n damage
          freeIndex := s.freeIndex + 1
          stats :=
            { s.stats with
              correctedErrors := s.stats.correctedErrors + BitVec.ofNat 48 fixed
              uncorrectableErrors := s.stats.uncorrectableErrors + if x.becameFaulted then 1 else 0 } }) ∧
    (vacant = true →
      x.becameFaulted = false ∧ x.copy.state = .vacant ∧ x.copy.owed = ⟨false, false, false, false⟩ ∧
        (readable 0 → x.copy.generation = generation) ∧ (¬readable 0 → x.copy.generation = 0) ∧
        (x.dirty = true ↔ 0 < fixed ∨ lost ∨ code ≠ 0)) ∧
    (vacant = false →
      (readable 0 → code = 4 →
        x.becameFaulted = false ∧
          x.copy =
            { Record.blank with
              state := .faulted, generation := generation, generationKnown := (words.getD 0 0).getLsbD 3,
              owed := owedCopy 0 (words.getD 0 0), faultSource := .ofCode ((words.getD 0 0).extractLsb' 8 2),
              owedLost := (words.getD 0 0).getLsbD 10 } ∧
          (x.dirty = true ↔ 0 < fixed ∨ lost) ∧ (x.repair = true ↔ 0 < fixed)) ∧
      (source = .resume → readable 0 → code = 0 →
        x.becameFaulted = false ∧ x.copy.state = .vacant ∧ x.copy.owed = ⟨false, false, false, false⟩ ∧
          x.copy.generation = generation ∧ (x.repair = true ↔ 0 < fixed ∨ lost)) ∧
      (¬(readable 0 ∧ (code = 4 ∨ (source = .resume ∧ code = 0))) →
        (faults →
          x.becameFaulted = true ∧ x.dirty = true ∧ x.repair = true ∧
            ∃ owed,
              x.copy =
                { Record.blank with
                  state := .faulted
                  generation := if (check 0).readable then generation else 65535
                  generationKnown := (check 0).readable, owed := owed, faultSource := source
                  owedLost := (List.range 16).all fun k => !(check k).readable } ∧
              (∀ k, k < 16 → readable k → (∀ j, j < k → ¬readable j) → owed = owedCopy k (words.getD k 0)) ∧
              ((∀ k, k < 16 → ¬readable k) → owed = ⟨false, false, false, false⟩)) ∧
        (¬faults →
          x.becameFaulted = false ∧ (∀ st, RecState.ofCode code = some st → x.copy = decodeRecord st words) ∧
            (x.dirty = true ↔ 0 < fixed) ∧ (x.repair = true ↔ 0 < fixed))))

/-- WRITE_BACK_COMPLETE of an EVICTING line: the old copy is in the record's image, the line becomes FILLING for the
record it is reserved for, an entry in phase WAIT_EVICT for the old record moves to READING, the fill reads that
become ready are requested in the order of opening, and dirty write-backs rises (R84, R72). In RESTART the line stays
VALID with dirty clear, and every line becomes EMPTY with the last write-back (R87). -/
def Obligations.WriteBackCompleted : Prop :=
  ∀ (s : State) (i : Fin 64) (rest : List Txn), s.resetPin = false → s.inFlight = .writeBack i :: rest →
    (∀ old r reserved, lineAt s.lines i = .evicting old r reserved → old < Config.maxRecords →
      ∀ table lines,
        (s.missTable.map fun e => if e.number = old ∧ e.phase = .waitEvict then { e with phase := .reading } else e)
            = table →
        s.lines.set i.val (.filling reserved) i.isLt = lines →
        exec .writeBackComplete s = .next
          { s with
            inFlight := rest
            lines := lines
            missTable := table
            memory := (writeImage s old r).memory
            cacheQ := s.cacheQ ++
              ((s.missTable.zip table).filter fun p => p.2.ready lines && !p.1.ready s.lines).map
                fun p => .fill p.2.number
            stats := { s.stats with dirtyWriteBacks := s.stats.dirtyWriteBacks + 1 } }) ∧
    ∀ n r d f p requested, lineAt s.lines i = .valid n r d f p → s.restart = .writingBack requested →
      n < Config.maxRecords →
      (¬(s.cacheQ = [] ∧ rest = []) →
        exec .writeBackComplete s = .next
          { s with
            inFlight := rest
            lines := s.lines.set i.val (.valid n r false f p) i.isLt
            memory := (writeImage s n r).memory
            stats := { s.stats with dirtyWriteBacks := s.stats.dirtyWriteBacks + 1 } }) ∧
      (s.cacheQ = [] → rest = [] →
        exec .writeBackComplete s = .next
          { s with
            inFlight := []
            lines := Vector.replicate 64 .empty
            restart := .emptied requested
            memory := (writeImage s n r).memory
            stats := { s.stats with dirtyWriteBacks := s.stats.dirtyWriteBacks + 1 } })

/-- FILL_READ_COMPLETE: the target line becomes VALID with the copy formed, referenced and pinned clear; a FAULTED
notice is offered where the read made the record FAULTED; fill done becomes yes; and the entry begins serving: a
command step at its head has its claim taken (R73, R74, R94, R95). -/
def Obligations.FillReadCompleted : Prop :=
  ∀ (s : State) (n : Nat) (rest : List Txn) (damage : Damage) (before : List Entry) (e : Entry) (after : List Entry)
    (t : State) (x : Formed),
    s.resetPin = false → s.inFlight = .fill n :: rest → n < Config.maxRecords →
    EntryAt s.missTable n before e after →
    readImage { s with inFlight := rest } n .fill (decide (n ∉ s.occupancy)) damage = (t, x) →
    (x.becameFaulted = false →
      exec (.fillReadComplete damage) s = .next
        (serveCommand
          { t with
            lines := t.lines.set e.target.val (.valid n x.copy x.dirty false false) e.target.isLt
            missTable := before ++ { e with fillDone := true } :: after } n)) ∧
    (x.becameFaulted = true →
      ∀ q, offerNotice t x.copy .faulted
          ⟨.faulted x.copy.faultSource x.copy.owedLost, n, x.copy.generation, s.now⟩ = q →
        exec (.fillReadComplete damage) s = .next
          (serveCommand
            { q.1 with
              lines := s.lines.set e.target.val (.valid n q.2 x.dirty false false) e.target.isLt
              missTable := before ++
                { e with
                  fillDone := true
                  waiters := e.waiters.map fun w => match w with
                    | .cell c => .cell c
                    | .command _ => .command true } :: after } n))

/-- SWEEP_READ_COMPLETE: the working copy is formed, the FAULTED notice of a faulting read is offered first, the visit
actions are performed, and the sweep write of the copy is requested whatever they did (R97, R108).
SWEEP_WRITE_COMPLETE: the image holds the working copy, the Sweep Hold becomes none, an entry in phase WAIT_SWEEP for
the record moves to READING and its fill read is requested where its line is ready; a remembered step is then taken
(R103, R109). -/
def Obligations.SweepReadModifyWrite : Prop :=
  (∀ (during : VisitEvents) (s : State) (n : Nat) (rest : List Txn) (damage : Damage) (t : State) (x : Formed),
    s.resetPin = false → s.inFlight = .sweepRead n :: rest → n < Config.maxRecords →
    readImage { s with inFlight := rest } n .sweep false damage = (t, x) →
    ∀ q, (if x.becameFaulted then
          offerNotice t x.copy .faulted
            ⟨.faulted x.copy.faultSource x.copy.owedLost, n, x.copy.generation, s.now⟩
        else (t, x.copy)) = q →
      ∀ v, visitActions during q.1 n q.2 = v →
        exec (.sweepReadComplete damage during) s = .next
          { v.1 with hold := .writing n v.2, sweepReq := some (.write n) }) ∧
  ∀ (during : VisitEvents) (s : State) (n m : Nat) (copy : Record) (rest : List Txn),
    s.resetPin = false → s.inFlight = .sweepWrite n :: rest → s.hold = .writing m copy → n < Config.maxRecords →
    ∀ table,
      (s.missTable.map fun e => if e.number = n ∧ e.phase = .waitSweep then { e with phase := .reading } else e)
          = table →
      ∀ t,
        ({ s with
            inFlight := rest
            hold := .none
            missTable := table
            memory := (writeImage s n copy).memory
            cacheQ := s.cacheQ ++
              ((s.missTable.zip table).filter fun p => p.2.ready s.lines && !p.1.ready s.lines).map
                fun p => .fill p.2.number } : State) = t →
        (s.remembered = false → exec (.sweepWriteComplete during) s = .next t) ∧
        (s.remembered = true →
          exec (.sweepWriteComplete during) s = .next (beginVisit during { t with remembered := false }))

/-- FORMAT_WRITE_COMPLETE: the image is that of a VACANT record of generation 0 with every other field 0; with the
write of record capacity - 1 the pass ends in one event: map clear, owed-record count 0, preserved cleared, RUNNING,
interval count 0, and FORMAT answered with the capacity (R98, R175). -/
def Obligations.FormatWriteCompleted : Prop :=
  encodeImage Record.blank = List.replicate 16 0 ∧
  ∀ (s : State) (n next : Nat) (c : Command) (rest : List Txn),
    s.resetPin = false → s.inFlight = .formatWrite n :: rest → s.pass = .format next →
    s.engine = .inOperation c → n < Config.maxRecords →
    (n + 1 ≠ s.setup.capacity →
      exec .formatWriteComplete s = .next
        { s with inFlight := rest, memory := (writeImage s n Record.blank).memory }) ∧
    (n + 1 = s.setup.capacity →
      exec .formatWriteComplete s = .next
        (answered
          { s with
            inFlight := rest
            memory := (writeImage s n Record.blank).memory
            occupancy := []
            owedCount := 0
            preserved := none
            device := .running
            interval := 0
            remembered := false
            pass := .none } c .ok
          [BitVec.ofNat 8 (s.setup.capacity / 256), BitVec.ofNat 8 s.setup.capacity]))

/-- RESUME_READ_COMPLETE: the image is judged and its FAULTED notice offered, its state is counted, its map entry is set
where it is not VACANT, a record that owes a notice is counted, and a repair is requested where it is needed.
RESUME_WRITE_COMPLETE: the repaired image is in the memory. The pass ends where every read and every write requested
have completed (R99, R100, R176). Setting a record's map entry sets that entry alone (R18). -/
def Obligations.ResumePassCompletions : Prop :=
  (∀ (map : List Nat) (n m : Nat), m ∈ occSet map n ↔ m = n ∨ m ∈ map) ∧
  (∀ (s : State) (n next : Nat) (counts : StateCounts) (writes : List (Nat × Record)) (c : Command) (rest : List Txn)
    (damage : Damage) (t : State) (x : Formed),
    s.resetPin = false → s.inFlight = .resumeRead n :: rest → s.pass = .resume next counts writes →
    s.engine = .inOperation c → n < Config.maxRecords →
    readImage { s with inFlight := rest } n .resume false damage = (t, x) →
    ∀ q, (if x.becameFaulted then
          offerNotice t x.copy .faulted
            ⟨.faulted x.copy.faultSource x.copy.owedLost, n, x.copy.generation, s.now⟩
        else (t, x.copy)) = q →
      ∀ u : State,
        { q.1 with
          owedCount := if q.2.owed.isEmpty then s.owedCount else s.owedCount + 1
          occupancy := if q.2.state = .vacant then s.occupancy else occSet s.occupancy n
          pass := .resume next (counts.bump q.2.state) (writes ++ if x.repair then [(n, q.2)] else []) } = u →
        (s.setup.capacity ≤ next ∧ rest = [] ∧ writes = [] ∧ x.repair = false →
          exec (.resumeReadComplete damage) s = .next (resumed u c (counts.bump q.2.state))) ∧
        (¬(s.setup.capacity ≤ next ∧ rest = [] ∧ writes = [] ∧ x.repair = false) →
          exec (.resumeReadComplete damage) s = .next u)) ∧
  ∀ (s : State) (n next : Nat) (copy : Record) (counts : StateCounts) (writes : List (Nat × Record)) (c : Command)
    (rest : List Txn),
    s.resetPin = false → s.inFlight = .resumeWrite n copy :: rest → s.pass = .resume next counts writes →
    s.engine = .inOperation c → n < Config.maxRecords →
    ∀ u : State, { s with inFlight := rest, memory := (writeImage s n copy).memory } = u →
      (s.setup.capacity ≤ next ∧ rest = [] ∧ writes = [] →
        exec .resumeWriteComplete s = .next (resumed u c counts)) ∧
      (¬(s.setup.capacity ≤ next ∧ rest = [] ∧ writes = []) → exec .resumeWriteComplete s = .next u)

/-- RESTART_WRITE_BACK_REQUEST: with no ingress transfer, and stage, Ingress FIFO, Miss Table and Sweep Hold empty, the
write-back of every dirty VALID line is requested in line order (R87, R177); with none dirty every line becomes EMPTY
at once (the model's reading, log 25); not drained, the event leaves the state as it was (the model's choice, log 1).
RESTART_COMPLETE: with every line EMPTY and the Egress FIFO empty, the sequence completes in one event (R178); with a
cell in the Egress FIFO it leaves the state as it was (log 1). -/
def Obligations.RestartSequence : Prop :=
  (∀ s : State, s.resetPin = false →
    (¬(s.device = .restarting ∧ s.restart = .draining ∧ s.transfer = none ∧ s.stage = none ∧ s.ingress = [] ∧
        s.missTable = [] ∧ s.hold = .none) → exec .restartWriteBackRequest s = .next s) ∧
    (s.device = .restarting → s.restart = .draining → s.transfer = none → s.stage = none → s.ingress = [] →
      s.missTable = [] → s.hold = .none →
      ∀ dirty : List (Fin 64), dirty.Pairwise (· < ·) →
        (∀ i, i ∈ dirty ↔ ∃ n r f p, lineAt s.lines i = .valid n r true f p) →
        (dirty ≠ [] →
          exec .restartWriteBackRequest s = .next
            { s with restart := .writingBack dirty.length, cacheQ := s.cacheQ ++ dirty.map .writeBack }) ∧
        (dirty = [] →
          exec .restartWriteBackRequest s = .next
            { s with restart := .emptied 0, lines := Vector.replicate 64 .empty }))) ∧
  ∀ (s : State) (c : Command) (requested : Nat), s.resetPin = false → s.engine = .inOperation c →
    s.restart = .emptied requested →
    (s.egress ≠ [] → exec .restartComplete s = .next s) ∧
    (s.egress = [] →
      exec .restartComplete s = .next
        (answered
          { s with
            preserved := some ⟨s.setup.capacity, s.setup.tickPeriod, s.setup.guard⟩
            ports := ⟨0, 0, 0, 0, 0, 0, 0, 0, 0, 0, 0, 0, 0⟩
            cellsInside := 0
            stats := ⟨0, 0, 0, 0, 0⟩
            occupancy := []
            hand := 0
            sweepPos := s.setup.capacity - 1
            interval := 0
            remembered := false
            restart := .idle
            device := .config } c .ok [BitVec.ofNat 8 requested]))

/-! ### The management link -/

/-- The acceptance decision: the five checks in their order; a refused frame leaves no trace but the last acceptance
code (R161), the model's own record of what MG_DOUT carried (log 16) and of the queues' lengths at a transaction's end
(log 15) apart. -/
def Obligations.AcceptanceChecks : Prop :=
  ∀ (s : State) (tag code : Byte) (params : List Byte) (check : BitVec 16),
    let good : Prop := crc16 (BitVec.ofNat 8 params.length :: tag :: code :: params) = check
    let known : Prop := ∃ n, (code, n) ∈ codeTable
    let fits : Prop := params.length ≤ 60 ∧ ∀ n, (code, n) ∈ codeTable → params.length = n
    (¬good → acceptance s tag code params check = .checkError) ∧
    (good → ¬fits → acceptance s tag code params check = .lengthError) ∧
    (good → fits → ¬known → acceptance s tag code params check = .unknownCode) ∧
    (good → fits → known → tag ∈ tagsInUse s → acceptance s tag code params check = .tagInUse) ∧
    (good → fits → known → tag ∉ tagsInUse s → 8 ≤ outstanding s → acceptance s tag code params check = .full) ∧
    (good → fits → known → tag ∉ tagsInUse s → outstanding s < 8 →
      acceptance s tag code params check = .accepted) ∧
    (acceptance s tag code params check ≠ .accepted → s.resetPin = false → s.linkWaits = false →
      params.length ≤ 255 → ∀ more,
      ∃ out, exec (.command tag code params check more) s =
        .next
          { s with
            lastAcceptance := some (acceptance s tag code params check)
            linkOut := out
            responsesAtEnd := s.responses.length
            noticesAtEnd := s.notices.length })

/-- RESPONSE_READ and NOTICE_READ, completed: the count byte is the number of members the queue held at the end of the
kind byte, `entered` having joined it since; a count of 0 removes nothing; otherwise the head is presented in its frame,
after 00h and the count, and leaves its queue; 00h is driven behind (R121, R159, R164, R165). A count that the queue
has not had since the last transaction ended is no read's (the model's form, log 15). The attention output is asserted
exactly while the response queue or the notice queue holds a member (R123, R167). -/
def Obligations.ReadsRemoveTheHead : Prop :=
  (∀ s : State, attention s = true ↔ s.responses ≠ [] ∨ s.notices ≠ []) ∧
  ∀ (s : State) (entered more : Nat), s.resetPin = false → s.linkWaits = false →
    (s.responses.length < s.responsesAtEnd + entered → exec (.responseRead entered more) s = .next s) ∧
    (s.notices.length < s.noticesAtEnd + entered → exec (.noticeRead entered more) s = .next s) ∧
    (s.responsesAtEnd = 0 → s.responses.length = entered →
      exec (.responseRead entered more) s = .next
        { s with
          linkOut := [0, 0] ++ List.replicate more 0
          responsesAtEnd := s.responses.length
          noticesAtEnd := s.notices.length }) ∧
    (s.noticesAtEnd = 0 → s.notices.length = entered →
      exec (.noticeRead entered more) s = .next
        { s with
          linkOut := [0, 0] ++ List.replicate more 0
          responsesAtEnd := s.responses.length
          noticesAtEnd := s.notices.length }) ∧
    (∀ x rest count, s.responses = x :: rest → 1 ≤ count → count + entered = s.responses.length →
      s.responsesAtEnd ≤ count →
      ∀ frame : List Byte, BitVec.ofNat 8 x.payload.length :: x.tag :: x.code :: x.outcome.code :: x.payload = frame →
        exec (.responseRead entered more) s = .next
          { s with
            responses := rest
            linkOut := (0 :: BitVec.ofNat 8 count ::
              (frame ++ [(crc16 frame).extractLsb' 8 8, (crc16 frame).extractLsb' 0 8])) ++ List.replicate more 0
            responsesAtEnd := rest.length
            noticesAtEnd := s.notices.length }) ∧
    ∀ x rest count, s.notices = x :: rest → 1 ≤ count → count + entered = s.notices.length → s.noticesAtEnd ≤ count →
      ∀ frame : List Byte,
        x.body.code :: BitVec.ofNat 8 (x.number / 256) :: BitVec.ofNat 8 x.number ::
          [x.generation.extractLsb' 8 8, x.generation.extractLsb' 0 8, x.tick.extractLsb' 40 8,
            x.tick.extractLsb' 32 8, x.tick.extractLsb' 24 8, x.tick.extractLsb' 16 8, x.tick.extractLsb' 8 8,
            x.tick.extractLsb' 0 8, x.body.detail.extractLsb' 24 8, x.body.detail.extractLsb' 16 8,
            x.body.detail.extractLsb' 8 8, x.body.detail.extractLsb' 0 8] = frame →
        exec (.noticeRead entered more) s = .next
          { s with
            notices := rest
            linkOut := (0 :: BitVec.ofNat 8 count ::
              (frame ++ [(crc16 frame).extractLsb' 8 8, (crc16 frame).extractLsb' 0 8])) ++ List.replicate more 0
            responsesAtEnd := s.responses.length
            noticesAtEnd := rest.length }

/-- COMMAND: the acceptance code is recorded and driven behind 00h bytes, and 00h behind it, as far as the host clocks; a
refused frame leaves no other trace; an accepted command joins the tail of the command queue, or becomes current at once
where the engine is idle and no command is queued (R136, R159, R160, R161). LINK_STATUS reports and changes nothing; a
void transaction drives 00h; an abandoned one has no effect; while the link waits for chip-select to rise after reset no
transaction is taken (R159, R166). That every TRANSACTION_ABANDON marks the rise that ends the wait, and has no other
effect then, is the model's choice (log 17): the table has no event for a rise alone. What MG_DOUT carried and the
queues' lengths at the end of a transaction are the model's own record (log 15, log 16). -/
def Obligations.TransactionResults : Prop :=
  ∀ s : State, s.resetPin = false →
    (s.linkWaits = true →
      (∀ tag code params check k, exec (.command tag code params check k) s = .next s) ∧
      (∀ e k, exec (.responseRead e k) s = .next s ∧ exec (.noticeRead e k) s = .next s) ∧
      (∀ k, exec (.linkStatus k) s = .next s) ∧ (∀ b k, exec (.voidTransaction b k) s = .next s) ∧
      ∀ a, exec (.transactionAbandon a) s = .next
        { s with
          linkWaits := false, responsesAtEnd := s.responses.length, noticesAtEnd := s.notices.length }) ∧
    (s.linkWaits = false →
      ∀ t : State, { s with responsesAtEnd := s.responses.length, noticesAtEnd := s.notices.length } = t →
        (∀ (tag code : Byte) (params : List Byte) (check : BitVec 16) (more : Nat), params.length ≤ 255 →
          ∀ a, acceptance s tag code params check = a →
            ∀ (behind : List Byte) (u : State),
              behind.length = more →
              (∀ k, k < more → behind.getD k 0xFF = if k = 0 then acceptanceCode (some a) else 0) →
              { t with
                lastAcceptance := some a
                linkOut := List.replicate (params.length + 6) 0 ++ behind } = u →
              (a ≠ .accepted → exec (.command tag code params check more) s = .next u) ∧
              (a = .accepted →
                (s.engine ≠ .idle →
                  exec (.command tag code params check more) s = .next
                    { u with cmdQueue := s.cmdQueue ++ [⟨tag, code, params⟩] }) ∧
                (s.engine = .idle → s.cmdQueue = [] →
                  exec (.command tag code params check more) s = .next
                    { u with engine := .checking ⟨tag, code, params⟩ }))) ∧
        (∀ status : List Byte,
          [s.device.code, BitVec.ofNat 8 (outstanding s), BitVec.ofNat 8 s.responses.length,
            BitVec.ofNat 8 s.notices.length, if s.owedCount = 0 then 0 else 1, acceptanceCode s.lastAcceptance]
              = status →
          ∀ more, exec (.linkStatus more) s = .next
            { t with
              linkOut := (0 :: (status ++ [(crc16 status).extractLsb' 8 8, (crc16 status).extractLsb' 0 8])) ++
                List.replicate more 0 }) ∧
        (∀ b k, b ∉ [0xA1#8, 0xA2#8, 0xA3#8, 0xA4#8] →
          exec (.voidTransaction b k) s = .next { t with linkOut := List.replicate (k + 1) 0 }) ∧
        (∀ k, 1 ≤ k → k ≤ 260 →
          exec (.transactionAbandon (.command k)) s = .next { t with linkOut := List.replicate k 0 }) ∧
        exec (.transactionAbandon .unnamed) s = .next { t with linkOut := [] } ∧
        ∀ a, exec (.transactionAbandon a) s = .next s ∨
          ∃ bytes, exec (.transactionAbandon a) s = .next { t with linkOut := bytes })

/-- The codes of the frames: the kinds of a transaction, the commands with the parameter length each requires, the
outcomes, acceptances, device states, record states, fault sources, policies and notice kinds, and the detail of a
notice (R181, R182), whose bits not named there are 0 (the model's choice, log 36). The bytes that the host clocks
between a fall and a rise of chip-select come to the event of the kind that the first names, completed with the last byte
of its frame or abandoned before it: the second check byte of a COMMAND, of a LINK-STATUS, and of the head's frame in a
read of a queue that held a member at the end of the kind byte; the count byte where it held none (R159, R160, R164 to
R166). -/
def Obligations.FrameCodes : Prop :=
  ([LinkKind.command, .responseRead, .noticeRead, .linkStatus].map LinkKind.code = [0xA1, 0xA2, 0xA3, 0xA4] ∧
    codeTable =
      [(0x10, 10), (0x11, 0), (0x12, 0), (0x13, 0), (0x14, 0), (0x20, 14), (0x21, 1), (0x30, 31), (0x31, 40),
        (0x32, 4), (0x33, 4), (0x34, 4), (0x35, 3), (0x36, 4), (0x37, 4)] ∧
    allCommands =
      [(.setup, 0x10), (.format, 0x11), (.resume, 0x12), (.restart, 0x13), (.status, 0x14), (.ruleWrite, 0x20),
        (.ruleRead, 0x21), (.admitRecord, 0x30), (.amend, 0x31), (.hold, 0x32), (.release, 0x33), (.retire, 0x34),
        (.query, 0x35), (.pin, 0x36), (.unpin, 0x37)] ∧
    [OutcomeCode.ok, .wrongState, .badRecord, .stale, .notVacant, .isVacant, .recordState, .guarded, .badField,
      .mapMismatch, .pinLimit, .faulted, .badSetup].map OutcomeCode.code =
        [0x00, 0x01, 0x02, 0x03, 0x04, 0x05, 0x06, 0x07, 0x08, 0x09, 0x0A, 0x0B, 0x0C] ∧
    [none, some Acceptance.accepted, some .full, some .checkError, some .lengthError, some .unknownCode,
      some .tagInUse].map acceptanceCode = [0x00, 0x01, 0x02, 0x03, 0x04, 0x05, 0x06] ∧
    [DeviceState.config, .formatting, .resuming, .running, .restarting].map DeviceState.code =
      [0x00, 0x01, 0x02, 0x03, 0x04] ∧
    [RecState.vacant, .active, .held, .expired, .faulted].map RecState.code = [0, 1, 2, 3, 4] ∧
    [FaultSource.none, .fill, .sweep, .resume].map FaultSource.code = [0, 1, 2, 3] ∧
    [Policy.discard, .pass].map Policy.code = [0, 1]) ∧
  (∀ (o : OwedSet) (count : RecordCounter) (source : FaultSource) (lost : Bool),
    (o.bits.getLsbD 0 = o.expired ∧ o.bits.getLsbD 1 = o.idle ∧ o.bits.getLsbD 2 = o.alert ∧
      o.bits.getLsbD 3 = o.faulted) ∧
    [NoticeBody.expired, .idle, .idleRetired o, .alert count, .faulted source lost].map NoticeBody.code =
      [0x01, 0x02, 0x03, 0x04, 0x05] ∧
    NoticeBody.expired.detail = 0 ∧ NoticeBody.idle.detail = 0 ∧ (NoticeBody.alert count).detail = count ∧
    (NoticeBody.idleRetired o).detail.toNat = o.bits.toNat ∧
    (NoticeBody.faulted source lost).detail.toNat = source.code.toNat + if lost then 4 else 0) ∧
  ∀ (s : State) (entered : Nat),
    (∀ (tag code : Byte) (params : List Byte) (check : BitVec 16) (more : List Byte), params.length ≤ 255 →
      transactionEvent s
        (0xA1 :: BitVec.ofNat 8 params.length :: tag :: code ::
          (params ++ [check.extractLsb' 8 8, check.extractLsb' 0 8] ++ more)) entered =
        .command tag code params check more.length) ∧
    (∀ sent : List Byte,
      sent.length < 3 ∨ (∃ length tag code rest, sent = length :: tag :: code :: rest ∧ rest.length < length.toNat + 2) →
      transactionEvent s (0xA1 :: sent) entered = .transactionAbandon (.command (sent.length + 1))) ∧
    (∀ sent : List Byte,
      (s.responses.length ≤ entered →
        (1 ≤ sent.length → transactionEvent s (0xA2 :: sent) entered = .responseRead entered (sent.length - 1)) ∧
        (sent = [] → transactionEvent s (0xA2 :: sent) entered = .transactionAbandon (.responseRead entered 1))) ∧
      ∀ x rest, s.responses = x :: rest → entered < s.responses.length →
        (x.payload.length + 7 ≤ sent.length →
          transactionEvent s (0xA2 :: sent) entered =
            .responseRead entered (sent.length - (x.payload.length + 7))) ∧
        (sent.length < x.payload.length + 7 →
          transactionEvent s (0xA2 :: sent) entered =
            .transactionAbandon (.responseRead entered (sent.length + 1)))) ∧
    (∀ sent : List Byte,
      (s.notices.length ≤ entered →
        (1 ≤ sent.length → transactionEvent s (0xA3 :: sent) entered = .noticeRead entered (sent.length - 1)) ∧
        (sent = [] → transactionEvent s (0xA3 :: sent) entered = .transactionAbandon (.noticeRead entered 1))) ∧
      (entered < s.notices.length →
        (18 ≤ sent.length → transactionEvent s (0xA3 :: sent) entered = .noticeRead entered (sent.length - 18)) ∧
        (sent.length < 18 →
          transactionEvent s (0xA3 :: sent) entered =
            .transactionAbandon (.noticeRead entered (sent.length + 1))))) ∧
    (∀ sent : List Byte,
      (8 ≤ sent.length → transactionEvent s (0xA4 :: sent) entered = .linkStatus (sent.length - 8)) ∧
      (sent.length < 8 →
        transactionEvent s (0xA4 :: sent) entered = .transactionAbandon (.linkStatus (sent.length + 1)))) ∧
    transactionEvent s [] entered = .transactionAbandon .unnamed ∧
    ∀ (b : Byte) (more : List Byte), b ∉ [0xA1#8, 0xA2#8, 0xA3#8, 0xA4#8] →
      transactionEvent s (b :: more) entered = .voidTransaction b more.length

/-! ### Commands -/

/-- SETUP in CONFIG: its constraints, and the six values put in force together with the sweep position (R142, R60,
R116). -/
def Obligations.SetupResult : Prop :=
  ∀ (s : State) (c : Command), Current s c codeSetup → s.device = .config →
    ∀ capacity period interval guard : Nat,
      (field16 c.params 0).toNat = capacity → (field16 c.params 2).toNat = period →
      (field16 c.params 4).toNat = interval → (field16 c.params 6).toNat = guard →
      let refused : Prop :=
        (capacity ≠ 4096 ∧ capacity ≠ 8192 ∧ capacity ≠ 16384) ∨ period < 1 ∨ 1000 < period ∨ interval < 1 ∨
          capacity < guard ∨ 1 < (byteAt c.params 8).toNat ∨ 1 < (byteAt c.params 9).toNat ∨
          (∃ v, s.preserved = some v ∧ (v.capacity ≠ capacity ∨ v.tickPeriod ≠ period ∨ v.guard ≠ guard)) ∨
          ∃ k : Fin 16, capacity < (s.rules[k]).recordBase + (s.rules[k]).rangeLength
      (refused → exec .setup s = .next (answered s c .badSetup [])) ∧
      (¬refused →
        exec .setup s = .next
          (answered
            { s with
              setup := ⟨capacity, period, interval, guard,
                if byteAt c.params 8 = 0 then .discard else .pass, if byteAt c.params 9 = 0 then .discard else .pass⟩
              sweepPos := capacity - 1 } c .ok []))

/-- FORMAT, RESUME and RESTART put the device in FORMATTING, RESUMING and RESTARTING and the Maintenance Engine in an
operation (R143 to R145, R175 to R177). -/
def Obligations.OperationsBegin : Prop :=
  ∀ (s : State) (c : Command),
    (Current s c codeFormat → s.device = .config →
      exec .format s = .next { s with device := .formatting, pass := .format 0, engine := .inOperation c }) ∧
    (Current s c codeResume → s.device = .config → s.preserved ≠ none →
      exec .resume s = .next
        { s with
          device := .resuming, pass := .resume 0 ⟨0, 0, 0, 0, 0⟩ [], owedCount := 0, engine := .inOperation c }) ∧
    (Current s c codeRestart → s.device = .running →
      exec .restart s = .next
        { s with device := .restarting, restart := .draining, remembered := false, engine := .inOperation c })

/-- STATUS, RULE-WRITE and RULE-READ in CONFIG and RUNNING: the report, the rule replaced whole where it keeps every
limit, the rule reported (R54, R55, R59, R146), each field of the reports in its place (R181, R182); and the lengths of
the OK payloads of every command (R181, R182). Bits that the layouts do not name are 0 (the model's choice, log 36), and
the owed-record count is sent in its low 16 bits (log 24). -/
def Obligations.StatusAndRuleCommands : Prop :=
  ((∀ s : State, statusPayload s =
      [s.device.code, if s.preserved.isSome then 1 else 0] ++ msFirst 6 s.now ++
        msFirst 2 (BitVec.ofNat 16 s.setup.capacity) ++ msFirst 2 (BitVec.ofNat 16 s.setup.tickPeriod) ++
        msFirst 2 (BitVec.ofNat 16 s.setup.sweepInterval) ++ msFirst 2 (BitVec.ofNat 16 s.setup.guard) ++
        [s.setup.unadmitted.code, s.setup.overflow.code] ++
        msFirst 6 s.ports.accepted ++ msFirst 6 s.ports.emitted ++ msFirst 6 s.ports.passed ++
        msFirst 6 s.ports.marked ++ msFirst 6 s.ports.unpoliced ++ msFirst 6 s.ports.header ++
        msFirst 6 s.ports.noRule ++ msFirst 6 s.ports.unadmitted ++ msFirst 6 s.ports.mismatch ++
        msFirst 6 s.ports.missOverflow ++ msFirst 6 s.ports.stateDiscards ++ msFirst 6 s.ports.excess ++
        msFirst 6 s.ports.fault ++ [BitVec.ofNat 8 s.cellsInside] ++
        msFirst 6 s.stats.hits ++ msFirst 6 s.stats.misses ++ msFirst 6 s.stats.dirtyWriteBacks ++
        msFirst 6 s.stats.correctedErrors ++ msFirst 6 s.stats.uncorrectableErrors ++
        [BitVec.ofNat 8 (pinnedCount s)] ++ msFirst 2 (BitVec.ofNat 16 s.owedCount) ++
        [BitVec.ofNat 8 s.notices.length]) ∧
    ∀ (n : Nat) (rule : Rule), rulePayload n rule =
      [BitVec.ofNat 8 n, if rule.enable then 1 else 0] ++ msFirst 3 rule.matchLabel ++ msFirst 3 rule.maskLabel ++
        [BitVec.ofNat 8 rule.fieldPosition, BitVec.ofNat 8 rule.fieldWidth] ++
        msFirst 2 (BitVec.ofNat 16 rule.recordBase) ++ msFirst 2 (BitVec.ofNat 16 rule.rangeLength)) ∧
  ((∀ s, (statusPayload s).length = 131) ∧ (∀ n r, (rulePayload n r).length = 14) ∧
  (∀ r, (summaryPayload r).length = 24) ∧ (∀ c, (countsPayload c).length = 10) ∧
  (∀ r resident pinned isGuarded, (queryPayload r resident pinned isGuarded).length = 73) ∧
  ∀ a b c d o g, (retirePayload (counterBytes a b c d) o g).length = 19) ∧
  ∀ (s : State) (c : Command), s.device = .config ∨ s.device = .running →
    (Current s c codeStatus → exec .status s = .next (answered s c .ok (statusPayload s))) ∧
    (Current s c codeRuleWrite →
      ∀ number (rule : Rule), (byteAt c.params 0).toNat = number →
        (⟨(byteAt c.params 1).getLsbD 0, field24 c.params 2, field24 c.params 5, (byteAt c.params 8).toNat,
            (byteAt c.params 9).toNat, (field16 c.params 10).toNat, (field16 c.params 12).toNat⟩ : Rule) = rule →
        let refused : Prop :=
          16 ≤ number ∨ 23 < rule.fieldPosition ∨ 14 < rule.fieldWidth ∨ 16383 < rule.recordBase ∨
            rule.rangeLength = 0 ∨ 16384 < rule.rangeLength ∨ 24 < rule.fieldPosition + rule.fieldWidth ∨
            s.setup.capacity < rule.recordBase + rule.rangeLength
        (refused → exec .ruleWrite s = .next (answered s c .badField [])) ∧
        (¬refused → ∃ h : number < 16,
          exec .ruleWrite s = .next (answered { s with rules := s.rules.set number rule h } c .ok []))) ∧
    (Current s c codeRuleRead →
      (16 ≤ (byteAt c.params 0).toNat → exec .ruleRead s = .next (answered s c .badField [])) ∧
      ∀ k : Fin 16, (byteAt c.params 0).toNat = k.val →
        exec .ruleRead s = .next (answered s c .ok (rulePayload k.val s.rules[k])))

/-- Commands refused at stages 1 to 3, with no claim: WRONG_STATE in a device state that does not allow the command
(R137), BAD_RECORD, and the checks of ADMIT, AMEND, HOLD and RETIRE that need no record (R21, R58, R138, R147, R149,
R151, R153). -/
def Obligations.RefusalsWithoutClaim : Prop :=
  (∀ (s : State) (c : Command) (x : Instr × Byte), x ∈ allCommands → Current s c x.2 →
    let allowed : Prop :=
      (s.device = .config ∧ (x.1 = .setup ∨ x.1 = .format ∨ (x.1 = .resume ∧ s.preserved ≠ none))) ∨
        (s.device = .running ∧ (x.1 = .restart ∨ x ∈ recordCommands)) ∨
        ((s.device = .config ∨ s.device = .running) ∧ (x.1 = .status ∨ x.1 = .ruleWrite ∨ x.1 = .ruleRead))
    ¬allowed → exec x.1 s = .next (answered s c .wrongState [])) ∧
  (∀ (s : State) (c : Command) (x : Instr × Byte), x ∈ recordCommands → Current s c x.2 → s.device = .running →
    s.setup.capacity ≤ (field16 c.params 0).toNat → exec x.1 s = .next (answered s c .badRecord [])) ∧
  ∀ (s : State) (c : Command) (n : Nat),
    (RecordCommand s c codeHold n → n < s.setup.guard → exec .hold s = .next (answered s c .guarded [])) ∧
    (RecordCommand s c codeRetire n → n < s.setup.guard → exec .retire s = .next (answered s c .guarded [])) ∧
    (RecordCommand s c codeAdmit n →
      ∀ b, paramBlock c.params 5 = b →
        let bad : Prop :=
          b.depth.toNat < 4096 ∨ 1 < b.peakAction.toNat ∨ 1 < b.sustainedAction.toNat ∨
            (b.presence.getLsbD 1 = true ∧ b.idleLimit = 0) ∨ (b.presence.getLsbD 3 = true ∧ b.alertThreshold = 0) ∨
            (n < s.setup.guard ∧ (b.presence.getLsbD 0 = true ∨ b.presence.getLsbD 2 = true))
        (bad → exec .admitRecord s = .next (answered s c .badField [])) ∧
        (¬bad → mapLabel s.rules (field24 c.params 2) ≠ some n →
          exec .admitRecord s = .next (answered s c .mapMismatch []))) ∧
    (RecordCommand s c codeAmend n →
      ∀ b, paramBlock c.params 14 = b →
        ∀ select : Nat → Byte, (∀ k, select k = byteAt c.params (3 + k)) →
          (select 2 = 1 ∧ b.depth.toNat < 4096) ∨ (select 5 = 1 ∧ 1 < b.peakAction.toNat) ∨
            (select 6 = 1 ∧ 1 < b.sustainedAction.toNat) ∨ (select 8 = 1 ∧ b.idleLimit = 0) ∨
            (select 10 = 1 ∧ b.alertThreshold = 0) ∨
            (∃ k ∈ [1, 2, 3, 4, 5, 6, 9], 1 < (select k).toNat) ∨ (∃ k ∈ [7, 8, 10], 2 < (select k).toNat) ∨
            (n < s.setup.guard ∧ (select 7 = 1 ∨ (select 9 = 1 ∧ b.presence.getLsbD 0 = true))) →
          exec .amend s = .next (answered s c .badField []))

/-- The record step of a command that has passed its own checks, and of one taken again with COMMAND_STEP_RETRY: it
joins the record's entry, opens an entry, or waits while the Miss Table is full; taken again on a resident record its
claim is taken at once (R66, R75, R76, R139). -/
def Obligations.RecordStepByStanding : Prop :=
  ∀ (s : State) (c : Command) (n : Nat) (i : Instr),
    ((∃ x ∈ recordCommands, x.1 = i ∧ RecordCommand s c x.2 n ∧ PassesOwnChecks s c) ∨
      (i = .commandStepRetry ∧ s.resetPin = false ∧ s.engine = .waitingForEntry c ∧ paramRecord c = n)) →
    (∀ before e after, EntryAt s.missTable n before e after →
      exec i s = .next
        { s with
          engine := .waitingOnEntry c
          missTable := before ++ { e with waiters := e.waiters ++ [.command false] } :: after }) ∧
    (standing s n = .evicting ∨ standing s n = .held ∨ standing s n = .absent →
      (s.missTable.length < 8 →
        ∀ t, openEntry s n (standing s n).phase (.command false) = some t →
          exec i s = .next { t with engine := .waitingOnEntry c }) ∧
      (8 ≤ s.missTable.length → exec i s = .next { s with engine := .waitingForEntry c })) ∧
    ∀ l r d f p, ResidentIn s n l r d f p →
      ∀ k, claimOf { s with stats := { s.stats with hits := s.stats.hits + 1 } } ⟨n, r, p, true, false⟩ c = k →
        exec i s = .next
          (answered
            { k.state with
              lines := k.state.lines.set l.val (.valid n k.copy (d || k.copy != r) true k.pinned) l.isLt }
            c k.outcome k.payload)

/-- ADMIT on a resident record: refused of a record that is FAULTED or not VACANT, or with an expiry not later than
now; otherwise it writes every field but the generation, which it answers, and sets the map entry, and that entry
alone (R15, R18, R147, R148). That generation known, fault source and owed set lost are written as no, none and no is
the model's choice (log 33). -/
def Obligations.AdmitResult : Prop :=
  (∀ (map : List Nat) (n m : Nat), m ∈ occSet map n ↔ m = n ∨ m ∈ map) ∧
  ∀ (s : State) (c : Command) (n : Nat) (i : Fin 64) (r : Record) (d f p : Bool) (b : Block),
    RecordCommand s c codeAdmit n → PassesOwnChecks s c → ResidentIn s n i r d f p → paramBlock c.params 5 = b →
    (r.state = .faulted → exec .admitRecord s = .next (answered (claimed s i n r d p) c .faulted [])) ∧
    (r.state = .active ∨ r.state = .held ∨ r.state = .expired →
      exec .admitRecord s = .next (answered (claimed s i n r d p) c .notVacant [])) ∧
    (r.state = .vacant →
      (b.presence.getLsbD 0 = true → b.expiry.toNat ≤ s.now.toNat →
        exec .admitRecord s = .next (answered (claimed s i n r d p) c .badField [])) ∧
      ((b.presence.getLsbD 0 = true → s.now.toNat < b.expiry.toNat) →
        exec .admitRecord s = .next
          (answered
            { claimed s i n
                { state := .active, generation := r.generation, generationKnown := false, faultSource := .none
                  owedLost := false, owed := ⟨false, false, false, false⟩, label := field24 c.params 2
                  sustainedRate := b.sustainedRate, depth := b.depth, peakInterval := b.peakInterval
                  peakTolerance := b.peakTolerance, peakAction := b.peakAction.setWidth 2
                  sustainedAction := b.sustainedAction.setWidth 2, budget := b.depth, lastUpdate := s.now
                  lastConform := none, lastSeen := s.now
                  expiry := if b.presence.getLsbD 0 then some b.expiry else none
                  idleLimit := if b.presence.getLsbD 1 then some b.idleLimit else none
                  autoRetire := b.presence.getLsbD 2
                  alertThreshold := if b.presence.getLsbD 3 then some b.alertThreshold else none
                  alertFired := false, idleReported := false, passed := 0, marked := 0, excessDiscarded := 0
                  stateDiscarded := 0 } true p with
              occupancy := occSet s.occupancy n } c .ok
            [r.generation.extractLsb' 8 8, r.generation.extractLsb' 0 8])))

/-- AMEND on a resident record: the checks of its claim; then the refresh at the old rate, the fields selected, the
budget lowered to a new depth it exceeds, idle reported and alert fired cleared with their parts, and an EXPIRED
record made ACTIVE where its expiry was set or removed (R141, R149, R150); each field of the summary in its place
(R182; the unnamed presence bits 0, the model's choice, log 36). -/
def Obligations.AmendResult : Prop :=
  (∀ q : Record, summaryPayload q =
    [q.state.code.setWidth 8] ++ msFirst 2 q.generation ++ msFirst 4 q.budget ++ msFirst 4 q.depth ++
      msFirst 6 q.lastUpdate ++ [if q.expiry.isSome then 1 else 0] ++ msFirst 6 (q.expiry.getD 0)) ∧
  ∀ (s : State) (c : Command) (n : Nat) (i : Fin 64) (r : Record) (d f p : Bool) (b : Block) (select : Nat → Byte),
    RecordCommand s c codeAmend n → PassesOwnChecks s c → ResidentIn s n i r d f p → paramBlock c.params 14 = b →
    (∀ k, select k = byteAt c.params (3 + k)) →
    (r.state = .faulted → exec .amend s = .next (answered (claimed s i n r d p) c .faulted [])) ∧
    (r.state ≠ .faulted → field16 c.params 2 ≠ r.generation →
      exec .amend s = .next (answered (claimed s i n r d p) c .stale [])) ∧
    (field16 c.params 2 = r.generation →
      (r.state = .vacant → exec .amend s = .next (answered (claimed s i n r d p) c .isVacant [])) ∧
      (r.admitted = true → select 7 = 1 → b.expiry.toNat ≤ s.now.toNat →
        exec .amend s = .next (answered (claimed s i n r d p) c .badField [])) ∧
      (r.admitted = true → ¬(select 7 = 1 ∧ b.expiry.toNat ≤ s.now.toNat) →
        ∃ q : Record,
          exec .amend s = .next (answered (claimed s i n q (d || q != r) p) c .ok (summaryPayload q)) ∧
          q.depth = (if select 2 = 1 then b.depth else r.depth) ∧
          q.budget =
            (if select 2 = 1 ∧ b.depth.toNat < (r.refresh s.now).budget.toNat then b.depth
            else (r.refresh s.now).budget) ∧
          q.state = (if r.state = .expired ∧ (select 7 = 1 ∨ select 7 = 2) then .active else r.state) ∧
          q.expiry = (if select 7 = 1 then some b.expiry else if select 7 = 2 then none else r.expiry) ∧
          q.idleLimit = (if select 8 = 1 then some b.idleLimit else if select 8 = 2 then none else r.idleLimit) ∧
          q.alertThreshold =
            (if select 10 = 1 then some b.alertThreshold else if select 10 = 2 then none else r.alertThreshold) ∧
          q.idleReported = (if select 8 = 1 ∨ select 8 = 2 then false else r.idleReported) ∧
          q.alertFired = (if select 10 = 1 ∨ select 10 = 2 then false else r.alertFired) ∧
          q.sustainedRate = (if select 1 = 1 then b.sustainedRate else r.sustainedRate) ∧
          q.peakInterval = (if select 3 = 1 then b.peakInterval else r.peakInterval) ∧
          q.peakTolerance = (if select 4 = 1 then b.peakTolerance else r.peakTolerance) ∧
          q.peakAction = (if select 5 = 1 then b.peakAction.setWidth 2 else r.peakAction) ∧
          q.sustainedAction = (if select 6 = 1 then b.sustainedAction.setWidth 2 else r.sustainedAction) ∧
          q.autoRetire = (if select 9 = 1 then b.presence.getLsbD 0 else r.autoRetire) ∧
          q =
            { r with
              lastUpdate := s.now, depth := q.depth, budget := q.budget, state := q.state, expiry := q.expiry,
              idleLimit := q.idleLimit, alertThreshold := q.alertThreshold, idleReported := q.idleReported,
              alertFired := q.alertFired, sustainedRate := q.sustainedRate, peakInterval := q.peakInterval,
              peakTolerance := q.peakTolerance, peakAction := q.peakAction, sustainedAction := q.sustainedAction,
              autoRetire := q.autoRetire }))

/-- HOLD and RELEASE on a resident record: FAULTED, STALE, IS_VACANT and RECORD_STATE leave it unchanged; otherwise
the state alone changes (R141, R151, R152). PIN and UNPIN on a resident record: STALE and IS_VACANT leave the line; PIN
pins where fewer than 48 lines are pinned or the line is pinned already and is answered PIN_LIMIT otherwise; UNPIN
clears pinned; neither changes a field of the record, nor dirty (R69, R140, R141, R156, R157). -/
def Obligations.HoldReleasePinUnpinResult : Prop :=
  (∀ (s : State) (c : Command) (n : Nat) (i : Fin 64) (r : Record) (d f p : Bool) (x : Instr),
    (x = .hold ∧ RecordCommand s c codeHold n ∧ s.setup.guard ≤ n) ∨ (x = .release ∧ RecordCommand s c codeRelease n) →
    ResidentIn s n i r d f p →
    (r.state = .faulted → exec x s = .next (answered (claimed s i n r d p) c .faulted [])) ∧
    (r.state ≠ .faulted → field16 c.params 2 ≠ r.generation →
      exec x s = .next (answered (claimed s i n r d p) c .stale [])) ∧
    (field16 c.params 2 = r.generation →
      (r.state = .vacant → exec x s = .next (answered (claimed s i n r d p) c .isVacant [])) ∧
      (r.state = .expired → exec x s = .next (answered (claimed s i n r d p) c .recordState [])) ∧
      (x = .hold → r.state = .active →
        exec x s = .next (answered (claimed s i n { r with state := .held } true p) c .ok [])) ∧
      (x = .hold → r.state = .held → exec x s = .next (answered (claimed s i n r d p) c .ok [])) ∧
      (x = .release → r.state = .held →
        exec x s = .next (answered (claimed s i n { r with state := .active } true p) c .ok [])) ∧
      (x = .release → r.state = .active → exec x s = .next (answered (claimed s i n r d p) c .ok [])))) ∧
  ∀ (s : State) (c : Command) (n : Nat) (i : Fin 64) (r : Record) (d f p : Bool) (x : Instr),
    (x = .pin ∧ RecordCommand s c codePin n) ∨ (x = .unpin ∧ RecordCommand s c codeUnpin n) →
    ResidentIn s n i r d f p →
    (field16 c.params 2 ≠ r.generation → exec x s = .next (answered (claimed s i n r d p) c .stale [])) ∧
    (field16 c.params 2 = r.generation →
      (r.state = .vacant → exec x s = .next (answered (claimed s i n r d p) c .isVacant [])) ∧
      (r.state ≠ .vacant →
        (x = .pin → p = true ∨ pinnedCount s < 48 →
          exec x s = .next (answered (claimed s i n r d true) c .ok [])) ∧
        (x = .pin → p = false → 48 ≤ pinnedCount s →
          exec x s = .next (answered (claimed s i n r d p) c .pinLimit [])) ∧
        (x = .unpin → exec x s = .next (answered (claimed s i n r d false) c .ok []))))

/-- RETIRE on a resident record: an admitted record becomes VACANT with the next generation, a FAULTED one VACANT with
generation 0 whatever generation the command carries; the owed set is emptied and reported, the map entry and pinned
are cleared; the response carries the counters, the kinds dropped and the new generation (R141, R153, R154), the bits of
the set that the layout does not name 0 (the model's choice, log 36). -/
def Obligations.RetireResult : Prop :=
  ∀ (s : State) (c : Command) (n : Nat) (i : Fin 64) (r : Record) (d f p : Bool),
    RecordCommand s c codeRetire n → s.setup.guard ≤ n → ResidentIn s n i r d f p →
    (r.state = .faulted →
      exec .retire s = .next
        (answered
          { claimed s i n
              { r with
                state := .vacant, generation := 0, generationKnown := false, faultSource := .none, owedLost := false
                owed := ⟨false, false, false, false⟩ } true false with
            occupancy := s.occupancy.filter (· != n)
            owedCount := if r.owed.isEmpty then s.owedCount else s.owedCount - 1 } c .ok
          (List.replicate 16 0 ++ [r.owed.bits.setWidth 8, 0, 0]))) ∧
    (r.state ≠ .faulted → field16 c.params 2 ≠ r.generation →
      exec .retire s = .next (answered (claimed s i n r d p) c .stale [])) ∧
    (field16 c.params 2 = r.generation →
      (r.state = .vacant → exec .retire s = .next (answered (claimed s i n r d p) c .isVacant [])) ∧
      (r.admitted = true →
        exec .retire s = .next
          (answered
            { claimed s i n
                { r with state := .vacant, generation := r.generation + 1, owed := ⟨false, false, false, false⟩ }
                true false with
              occupancy := s.occupancy.filter (· != n)
              owedCount := if r.owed.isEmpty then s.owedCount else s.owedCount - 1 } c .ok
            (msFirst 4 r.passed ++ msFirst 4 r.marked ++ msFirst 4 r.excessDiscarded ++ msFirst 4 r.stateDiscarded ++
              [r.owed.bits.setWidth 8] ++ msFirst 2 (r.generation + 1)))))

/-- QUERY on a resident record: an admitted record is refreshed and reported, and with the clear option its counters
become 0 and alert fired no; a VACANT or FAULTED record is reported and changes in nothing (R155). Each field of the
report stands in its place (R182; the unnamed bits of its flag bytes 0, the model's choice, log 36). -/
def Obligations.QueryResult : Prop :=
  (∀ (r : Record) (resident pinned isGuarded : Bool) (flags presence : Byte),
    (r.admitted = true →
      (∀ k, k < 8 → flags.getLsbD k =
        [true, r.alertFired, r.idleReported, resident, pinned, isGuarded].getD k false) →
      (∀ k, k < 8 → presence.getLsbD k =
        [r.expiry.isSome, r.idleLimit.isSome, r.autoRetire, r.alertThreshold.isSome, r.lastConform.isSome].getD k
          false) →
      queryPayload r resident pinned isGuarded =
        [r.state.code.setWidth 8] ++ msFirst 2 r.generation ++ [flags, 0, r.owed.bits.setWidth 8] ++
          msFirst 3 r.label ++ msFirst 2 r.sustainedRate ++ msFirst 4 r.depth ++ msFirst 2 r.peakInterval ++
          msFirst 2 r.peakTolerance ++ [r.peakAction.setWidth 8 <<< 4 ||| r.sustainedAction.setWidth 8, presence] ++
          msFirst 6 (r.expiry.getD 0) ++ msFirst 4 (r.idleLimit.getD 0) ++ msFirst 4 (r.alertThreshold.getD 0) ++
          msFirst 4 r.budget ++ msFirst 6 r.lastUpdate ++ msFirst 6 (r.lastConform.getD 0) ++ msFirst 6 r.lastSeen ++
          msFirst 4 r.passed ++ msFirst 4 r.marked ++ msFirst 4 r.excessDiscarded ++ msFirst 4 r.stateDiscarded) ∧
    (r.state = .vacant →
      (∀ k, k < 8 → flags.getLsbD k = [true, false, false, resident, pinned, isGuarded].getD k false) →
      queryPayload r resident pinned isGuarded =
        [0] ++ msFirst 2 r.generation ++ [flags, 0, 0] ++ List.replicate 67 0) ∧
    (r.state = .faulted →
      (∀ k, k < 8 → flags.getLsbD k =
        [r.generationKnown, false, false, resident, pinned, isGuarded, r.owedLost].getD k false) →
      queryPayload r resident pinned isGuarded =
        [4] ++ msFirst 2 r.generation ++ [flags, r.faultSource.code.setWidth 8, r.owed.bits.setWidth 8] ++
          List.replicate 67 0)) ∧
  ∀ (s : State) (c : Command) (n : Nat) (i : Fin 64) (r : Record) (d f p : Bool),
    RecordCommand s c codeQuery n → ResidentIn s n i r d f p →
    (r.admitted = false →
      exec .query s = .next
        (answered (claimed s i n r d p) c .ok (queryPayload r true p (decide (n < s.setup.guard))))) ∧
    (r.admitted = true →
      ((byteAt c.params 2).getLsbD 0 = false →
        exec .query s = .next
          (answered (claimed s i n (r.refresh s.now) (d || r.refresh s.now != r) p) c .ok
            (queryPayload (r.refresh s.now) true p (decide (n < s.setup.guard))))) ∧
      ((byteAt c.params 2).getLsbD 0 = true →
        ∀ q : Record,
          { r.refresh s.now with
            passed := 0, marked := 0, excessDiscarded := 0, stateDiscarded := 0, alertFired := false } = q →
          exec .query s = .next
            (answered (claimed s i n q (d || q != r) p) c .ok
              (queryPayload (r.refresh s.now) true p (decide (n < s.setup.guard))))))

/-! ### What changes what -/

/-- No event changes the queue of waiting events (the model's own, log 2). The Label Map's rules change at RULE_WRITE
alone, the SETUP parameters at SETUP alone, the records-preserved indication at the ends of FORMAT, RESUME and RESTART
alone, and the data of record memory at the completions of writes alone, power-on and the RESET pin apart (R47, R89,
R173, R174). -/
def Obligations.WhatChangesLastingState : Prop :=
  (∀ (c : Instr) (s t : State), exec c s = .next t → t.pending = s.pending) ∧
  ∀ (c : Instr) (s t : State), exec c s = .next t → isResetEvent c = false →
    (c ≠ .ruleWrite → t.rules = s.rules) ∧ (c ≠ .setup → t.setup = s.setup) ∧
    (c ≠ .formatWriteComplete → (∀ x, c ≠ .resumeReadComplete x) → c ≠ .resumeWriteComplete → c ≠ .restartComplete →
      t.preserved = s.preserved) ∧
    (c ≠ .writeBackComplete → (∀ x, c ≠ .sweepWriteComplete x) → c ≠ .formatWriteComplete → c ≠ .resumeWriteComplete →
      ∀ a, t.memory.readByte a = s.memory.readByte a)

/-- Every change of device state is a row of the table of R170, in a state that agrees with its operation; but that the
device state reads CONFIG from the assertion of the RESET pin on, where the table's row is the end of the assertion, is
the model's choice (log 20). -/
def Obligations.DeviceStateTransitions : Prop :=
  ∀ (c : Instr) (s t : State), OperationAgrees s → exec c s = .next t → t.device ≠ s.device →
    (isResetEvent c = true ∧ t.device = .config) ∨
    (c = .format ∧ s.device = .config ∧ t.device = .formatting) ∨
    (c = .formatWriteComplete ∧ s.device = .formatting ∧ t.device = .running) ∨
    (c = .resume ∧ s.device = .config ∧ s.preserved ≠ none ∧ t.device = .resuming) ∨
    (((∃ x, c = .resumeReadComplete x) ∨ c = .resumeWriteComplete) ∧ s.device = .resuming ∧ t.device = .running) ∨
    (c = .restart ∧ s.device = .running ∧ t.device = .restarting) ∨
    (c = .restartComplete ∧ s.device = .restarting ∧ t.device = .config)

/-! ### Invariants -/

/-- The reset state meets every invariant below. That it meets the law of the Occupancy Map, the law of the owed-record
count and the memory's form rests on what the model lets a memory that nothing has written hold (log 5, the model's
choice: clean images of VACANT records); R88 gives no contents. -/
def Obligations.ResetMeetsInvariants : Prop :=
  Bounded State.reset ∧ Coherent State.reset ∧ Conserved State.reset ∧ EntriesDistinct State.reset ∧
    BudgetsWithinDepth State.reset ∧ NumbersExist State.reset ∧ Memory.wf State.reset.memory ∧
    StoreAgrees State.reset ∧ OccupancyAgrees State.reset ∧ RecordsFit State.reset ∧ OwedAgrees State.reset

/-- Every step keeps the rooms of the device: no queue, FIFO, table or window outgrows its size, and at most 48 lines
are pinned (R68, R78, R118, R129, R162). -/
def Obligations.RoomsAreKept : Prop :=
  ∀ s t : State, Bounded s → step s = .next t → Bounded t

/-- Every step keeps the agreement of device state, operation in progress and drain (R136, R170, R171, R87). -/
def Obligations.CoherenceIsKept : Prop :=
  ∀ s t : State, Coherent s → step s = .next t → Coherent t

/-- Every step keeps the conservation law: accepted is emitted plus the discards plus the cells held, modulo 2^48, and
the count of cells inside is the number of cells held. Every event but the resets and the completion of RESTART is an
acceptance, an emission, a discard, or leaves all of these alone (R134). -/
def Obligations.CellsAreConserved : Prop :=
  (∀ s t : State, Coherent s → Conserved s → step s = .next t → Conserved t) ∧
  ∀ (c : Instr) (s t : State), exec c s = .next t → isResetEvent c = false → c ≠ .restartComplete →
    (t.ports = { s.ports with accepted := s.ports.accepted + 1 } ∧ t.cellsInside = s.cellsInside + 1) ∨
    (∃ d, t.ports = s.ports.bumpEmitted d ∧ t.cellsInside = s.cellsInside - 1) ∨
    (∃ reason, t.ports = s.ports.bump reason ∧ t.cellsInside = s.cellsInside - 1) ∨
    (t.ports = s.ports ∧ t.cellsInside = s.cellsInside)

/-- Every step keeps the entries of the Miss Table distinct in record and target line, and the EVICTING and FILLING
lines their target lines (R61, R70). -/
def Obligations.EntriesStayDistinct : Prop :=
  ∀ s t : State, Coherent s → EntriesDistinct s → step s = .next t → EntriesDistinct t

/-- Every step keeps one current copy of a record, and the requests for its image in agreement with the entry or the
Sweep Hold they were made for (R2, R61, R70, R72, R82, R83). -/
def Obligations.StoreStaysInAgreement : Prop :=
  ∀ s t : State, Coherent s → EntriesDistinct s → StoreAgrees s → step s = .next t → StoreAgrees t

/-- The law of R18: in RUNNING every step keeps a record's Occupancy Map entry set exactly when its current copy is not
VACANT; and the end of a FORMAT pass over VACANT images brings it about. (How a pass in progress comes to its end with
this law is PassesBringTheLaws.) -/
def Obligations.OccupancyLawIsKept : Prop :=
  (∀ s t : State, Coherent s → EntriesDistinct s → StoreAgrees s → OccupancyAgrees s →
    s.device = .running → t.device = .running → step s = .next t → OccupancyAgrees t) ∧
  ∀ (s t : State) (n next : Nat) (c : Command) (rest : List Txn), s.resetPin = false →
    s.inFlight = .formatWrite n :: rest → s.pass = .format next → s.engine = .inOperation c →
    n + 1 = s.setup.capacity → (∀ i : Fin 64, lineAt s.lines i = .empty) → s.hold = .none →
    (∀ m, m < n → (s.memory.readWord (16 * m)).extractLsb' 0 3 = 0) →
    exec .formatWriteComplete s = .next t → t.device = .running ∧ OccupancyAgrees t

/-- The law of R13: in RUNNING every step keeps the owed-record count at least the number of records whose owed set is
not empty, and the excess as it was unless a read loses an owed set, all of its words uncorrectable (R94). The words of
the images read have at most two bits in error, as far as the spec relies on the code (R90). (How the passes bring the
law about is PassesBringTheLaws.) -/
def Obligations.OwedCountIsKept : Prop :=
  ∀ s t : State, Coherent s → EntriesDistinct s → StoreAgrees s → OccupancyAgrees s → RecordsFit s → OwedAgrees s →
    s.device = .running → t.device = .running → step s = .next t → (∀ w, errorCount (t.memory.errorAt w) ≤ 2) →
    RecordsFit t ∧ OwedAgrees t ∧
      ((∀ n, n < s.setup.capacity → ∃ k, k < 16 ∧ errorCount (t.memory.errorAt (16 * n + k)) ≤ 1) →
        t.owedCount + owing s = s.owedCount + owing t)

/-- The RESUME pass brings about the laws of R18 and R13, and so does the FORMAT pass: from CONFIG, with an empty Record
Store and no map entry set, a RESUME over images as the part writes them, or a FORMAT, begins in agreement with the images
read, or written, so far; every step of the pass keeps the agreement; and the step that ends it leaves RUNNING with both
laws, the owed-record count equal to the number of records that owe (R13, R18, R98 to R100, R175, R176). The words of the
images read have at most two bits in error, as far as the spec relies on the code (R90). -/
def Obligations.PassesBringTheLaws : Prop :=
  (∀ s t : State, s.device = .config → StoreEmpty s → RulesFit s → s.inFlight = [] → s.occupancy = [] →
    (exec .resume s = .next t → t.device = .resuming → ImagesSound s → ResumeAgrees t) ∧
    (exec .format s = .next t → t.device = .formatting → FormatAgrees t)) ∧
  (∀ s t : State, OperationAgrees s → s.device = .resuming → ResumeAgrees s → step s = .next t →
    (∀ w, errorCount (t.memory.errorAt w) ≤ 2) →
    (t.device = .resuming ∧ ResumeAgrees t) ∨ (t.device = .running ∧ LawsHold t) ∨ t.device = .config) ∧
  ∀ s t : State, OperationAgrees s → s.device = .formatting → FormatAgrees s → step s = .next t →
    (t.device = .formatting ∧ FormatAgrees t) ∨ (t.device = .running ∧ LawsHold t) ∨ t.device = .config

/-- Every step keeps every admitted copy's budget within its depth (R42). -/
def Obligations.BudgetsStayWithinDepth : Prop :=
  ∀ s t : State, BudgetsWithinDepth s → step s = .next t → BudgetsWithinDepth t

/-- From a state whose record numbers exist and whose rules lie within the capacity, a step answers a next state, never
a fault or a refusal, and keeps this so; classification and the lookup of ADMIT give only numbers of the record body
(R1, R18, R60). -/
def Obligations.StepsNeverStop : Prop :=
  (∀ s : State, NumbersExist s → ∃ t, step s = .next t ∧ NumbersExist t) ∧
  ∀ (s : State) (label : BitVec 24) (n : Nat), RulesFit s → mapLabel s.rules label = some n → n < s.setup.capacity

/-- Every step keeps record memory in its canonical form: addresses strictly rising, no entry equal to what an
unlisted address reads as, none beyond the reach of the address pins (the model's form, log 5). -/
def Obligations.MemoryFormIsKept : Prop :=
  ∀ s t : State, Memory.wf s.memory → step s = .next t → Memory.wf t.memory

end Statements
end

