-- ==== Sys2Proof/Laws/Ops.lean ====
section
/-! SUPPORT. What the shared operations can do, each said once: completions, entries of the Miss Table, notices, and
the fields that the Record Store's operations never touch. -/

namespace Sys2Proof.Laws

open Sys2Proof Sys2Proof.Machine Sys2Proof.Safety

/-! ### Completions and record commands -/

theorem complete_eq_answered (s : State) (c : Command) (o : OutcomeCode) (p : List Byte) :
    complete s c o p = answered s c o p := by
  unfold complete takeNext answered
  cases s.cmdQueue <;> rfl

theorem answer_eq_answered (s : State) (c : Command) (o : OutcomeCode) : answer s c o = answered s c o [] :=
  complete_eq_answered s c o []

theorem onCurrent_of_current {s : State} {c : Command} {code : Byte} (h : Current s c code)
    (effect : Command → State) : onCurrent s code effect = .next (effect c) := by
  obtain ⟨h1, h2, h3⟩ := h
  simp [onCurrent, whileRunning, h1, h2, h3]

theorem recordCommand_of_passed {s : State} {c : Command} {code : Byte} {n : Nat} (h : RecordCommand s c code n) :
    recordCommand s c none = recordStep s c n := by
  obtain ⟨_, h2, h3, h4⟩ := h
  simp [recordCommand, h2, h3, h4]

theorem recordCommand_of_refused {s : State} {c : Command} {code : Byte} {n : Nat} (h : RecordCommand s c code n)
    (o : OutcomeCode) : recordCommand s c (some o) = answered s c o [] := by
  obtain ⟨_, h2, h3, h4⟩ := h
  simp [recordCommand, h2, h3, h4, answer_eq_answered]

/-! ### Entries of the Miss Table -/

theorem findEntry_of_entryAt {t : List Entry} {n : Nat} {before : List Entry} {e : Entry} {after : List Entry}
    (h : EntryAt t n before e after) : findEntry t n = some e := by
  obtain ⟨h1, h2, h3⟩ := h
  have : before.find? (fun e => e.number == n) = none := by simpa using h3
  unfold findEntry
  rw [h1, List.find?_append, this]
  simp [h2]

theorem findEntry_none {t : List Entry} {n : Nat} : findEntry t n = none ↔ ∀ x ∈ t, x.number ≠ n := by
  simp [findEntry]

theorem entryAt_of_findEntry {t : List Entry} {n : Nat} {e : Entry} (h : findEntry t n = some e) :
    ∃ before after, EntryAt t n before e after := by
  obtain ⟨h1, before, after, h2, h3⟩ := List.find?_eq_some_iff_append.1 h
  exact ⟨before, after, h2, by simpa using h1, fun x hx => by simpa using h3 x hx⟩

theorem standing_of_entryAt {s : State} {n : Nat} {before : List Entry} {e : Entry} {after : List Entry}
    (h : EntryAt s.missTable n before e after) : standing s n = .named := by
  simp [standing, findEntry_of_entryAt h]

theorem findEntry_of_standing {s : State} {n : Nat} (h : standing s n ≠ .named) : findEntry s.missTable n = none := by
  by_contra hc
  exact h (by simp [standing, Option.isSome_iff_ne_none.2 hc])

theorem updateEntry_of_entryAt {t : List Entry} {n : Nat} {before : List Entry} {e : Entry} {after : List Entry}
    (h : EntryAt t n before e after) (f : Entry → Option Entry) :
    updateEntry t n f = before ++ match f e with
      | some e' => e' :: after
      | none => after := by
  obtain ⟨h1, h2, h3⟩ := h
  subst h1
  induction before with
  | nil =>
    cases hf : f e <;> simp [updateEntry, h2, hf]
  | cons a t ih =>
    have ha : a.number ≠ n := h3 a (by simp)
    simp only [List.cons_append, updateEntry, if_neg ha, ih fun x hx => h3 x (by simp [hx])]

theorem updateEntry_of_none {t : List Entry} {n : Nat} (h : ∀ x ∈ t, x.number ≠ n) (f : Entry → Option Entry) :
    updateEntry t n f = t := by
  induction t with
  | nil => rfl
  | cons a t ih =>
    rw [updateEntry, if_neg (h a (by simp)), ih fun x hx => h x (by simp [hx])]

theorem joinEntry_of_entryAt {t : List Entry} {n : Nat} {before : List Entry} {e : Entry} {after : List Entry}
    (h : EntryAt t n before e after) (w : Waiter) :
    joinEntry t n w = before ++ { e with waiters := e.waiters ++ [w] } :: after :=
  updateEntry_of_entryAt h _

theorem popWaiter_of_entryAt {t : List Entry} {n : Nat} {before : List Entry} {e : Entry} {after : List Entry}
    (h : EntryAt t n before e after) : popWaiter t n = served before e e.waiters.tail after := by
  unfold popWaiter served
  rw [updateEntry_of_entryAt h]
  cases e.waiters.tail <;> simp

theorem recordStep_of_resident {s : State} {n : Nat} {i : Fin 64} {r : Record} {d f p : Bool}
    (h : ResidentIn s n i r d f p) (c : Command) :
    recordStep s c n = claimCommand (countHit s) i ⟨n, r, p, true, false⟩ d c := by
  obtain ⟨h1, h2⟩ := h
  simp [recordStep, h1, h2]

/-- A resident record's line is VALID, holds it, and is no target line. -/
theorem resident_line {s : State} {n : Nat} {i : Fin 64} (h : standing s n = .resident i) :
    (∃ r d f p, lineAt s.lines i = .valid n r d f p) ∧ isTarget s.missTable i = false := by
  unfold standing at h
  split at h
  · cases h
  · split at h
    · rename_i j hj
      cases h
      have := List.find?_some hj
      simp only [Bool.and_eq_true, Bool.not_eq_true'] at this
      refine ⟨?_, this.2⟩
      have hh := this.1
      unfold Line.holds at hh
      split at hh
      · rename_i m r d f p hl
        simp only [beq_iff_eq] at hh
        subst hh
        exact ⟨r, d, f, p, hl⟩
      · cases hh
    · split at h
      · cases h
      · split at h <;> cases h

/-! ### Lines -/

theorem lineAt_set (ls : Vector Line 64) (i j : Fin 64) (l : Line) :
    lineAt (ls.set i.val l i.isLt) j = if j = i then l else lineAt ls j := by
  unfold lineAt
  rw [Vector.getElem_set]
  by_cases h : j = i
  · subst h
    simp
  · rw [if_neg h, if_neg fun e => h (Fin.ext e.symm)]

/-! ### Notices -/

/-- The queue has room: the notice enters it and the record is as it was (R119). -/
theorem offerNotice_room {s : State} (h : s.notices.length < 16) (r : Record) (k : OwedKind) (x : Notice) :
    offerNotice s r k x = (pushNotice s x, r) := by
  simp [offerNotice, noticeRoom, h]

/-- The queue is full: the kind is owed (R119). -/
theorem offerNotice_full {s : State} (h : 16 ≤ s.notices.length) (r : Record) (k : OwedKind) (x : Notice) :
    offerNotice s r k x =
      ({ s with owedCount := if r.owed.isEmpty then s.owedCount + 1 else s.owedCount },
        { r with owed := r.owed.add k }) := by
  simp [offerNotice, noticeRoom, h]

theorem has_add (o : OwedSet) (k j : OwedKind) : (o.add k).has j = (o.has j || decide (j = k)) := by
  cases k <;> cases j <;> simp [OwedSet.add, OwedSet.has]

theorem has_remove (o : OwedSet) (k j : OwedKind) : (o.remove k).has j = (o.has j && decide (j ≠ k)) := by
  cases k <;> cases j <;> simp [OwedSet.remove, OwedSet.has]

theorem isEmpty_iff (o : OwedSet) : o.isEmpty = true ↔ ∀ k, o.has k = false := by
  obtain ⟨a, b, c, d⟩ := o
  constructor
  · intro h k
    simp only [OwedSet.isEmpty, Bool.and_eq_true, Bool.not_eq_true'] at h
    cases k <;> simp [OwedSet.has, h]
  · intro h
    have h1 := h .expired
    have h2 := h .idle
    have h3 := h .alert
    have h4 := h .faulted
    simp only [OwedSet.has] at h1 h2 h3 h4
    simp [OwedSet.isEmpty, h1, h2, h3, h4]

/-- Nothing of a state but its notices, its owed-record count and its Occupancy Map differs, and notices were only put
behind the others. -/
def NoticesOnly (s t : State) : Prop :=
  ∃ new occupancy owed, t = { s with notices := s.notices ++ new, occupancy := occupancy, owedCount := owed }

theorem NoticesOnly.refl (s : State) : NoticesOnly s s := ⟨[], s.occupancy, s.owedCount, by simp⟩

theorem NoticesOnly.trans {s t u : State} (h1 : NoticesOnly s t) (h2 : NoticesOnly t u) : NoticesOnly s u := by
  obtain ⟨n1, o1, c1, rfl⟩ := h1
  obtain ⟨n2, o2, c2, rfl⟩ := h2
  exact ⟨n1 ++ n2, o2, c2, by simp⟩

/-- The copy is another only in its owed set. -/
def OwedOnly (r q : Record) : Prop := ∃ owed, q = { r with owed := owed }

theorem OwedOnly.refl (r : Record) : OwedOnly r r := ⟨r.owed, rfl⟩

theorem OwedOnly.trans {r q p : Record} (h1 : OwedOnly r q) (h2 : OwedOnly q p) : OwedOnly r p := by
  obtain ⟨o1, rfl⟩ := h1
  obtain ⟨o2, rfl⟩ := h2
  exact ⟨o2, rfl⟩

theorem offerNotice_frame (s : State) (r : Record) (k : OwedKind) (x : Notice) :
    NoticesOnly s (offerNotice s r k x).1 ∧ OwedOnly r (offerNotice s r k x).2 := by
  unfold offerNotice
  split
  · exact ⟨⟨[x], s.occupancy, s.owedCount, rfl⟩, .refl r⟩
  · exact ⟨⟨[], s.occupancy, _, by simp; rfl⟩, ⟨_, rfl⟩⟩

/-! ### Visits (R110, R119) -/

/-- What a visit may change beside the copy: at most `k` heads have left the notice queue and others were put behind;
the bytes of the last link transaction and the lengths at its end; the owed-record count and the Occupancy Map. -/
def VisitOnly (k : Nat) (s t : State) : Prop :=
  ∃ j new out responses notices occupancy owed, j ≤ k ∧
    t =
      { s with
        notices := s.notices.drop j ++ new, linkOut := out, responsesAtEnd := responses, noticesAtEnd := notices,
        occupancy := occupancy, owedCount := owed }

theorem NoticesOnly.visit {s t : State} (h : NoticesOnly s t) : VisitOnly 0 s t := by
  obtain ⟨new, o, c, rfl⟩ := h
  exact ⟨0, new, s.linkOut, s.responsesAtEnd, s.noticesAtEnd, o, c, Nat.le_refl 0, rfl⟩

theorem VisitOnly.trans {k l : Nat} {s t u : State} (h1 : VisitOnly k s t) (h2 : VisitOnly l t u) :
    VisitOnly (k + l) s u := by
  obtain ⟨j1, n1, out1, r1, a1, o1, c1, hk, rfl⟩ := h1
  obtain ⟨j2, n2, out2, r2, a2, o2, c2, hl, rfl⟩ := h2
  exact ⟨j1 + j2, n1.drop (j2 - (s.notices.drop j1).length) ++ n2, out2, r2, a2, o2, c2, by omega,
    by simp [List.drop_append, List.drop_drop]⟩

theorem VisitOnly.mono {k l : Nat} {s t : State} (h : VisitOnly k s t) (hl : k ≤ l) : VisitOnly l s t := by
  obtain ⟨j, n, out, r, a, o, c, hk, rfl⟩ := h
  exact ⟨j, n, out, r, a, o, c, Nat.le_trans hk hl, rfl⟩

/-- How many NOTICE-READs a visit's operand holds. -/
abbrev reads1 (r : Option ReadWithin) : Nat := r.toList.length

theorem readWithin_visit (s : State) (r : Option ReadWithin) : VisitOnly (reads1 r) s (readWithin s r) := by
  have same (k : Nat) : VisitOnly k s s :=
    ⟨0, [], s.linkOut, s.responsesAtEnd, s.noticesAtEnd, s.occupancy, s.owedCount, Nat.zero_le k, by simp⟩
  cases r with
  | none => exact same _
  | some r =>
    by_cases hl : s.linkWaits = true
    · simpa [readWithin, hl] using same (reads1 (some r))
    · simp only [readWithin, hl, readNotice, reads1]
      cases countTaken s.noticesAtEnd s.notices.length r.entered with
      | none => exact same 1
      | some count =>
        refine ⟨if count = 0 then 0 else 1, [], noticeBytes s count ++ List.replicate r.more 0#8, s.responses.length,
          if count = 0 then s.notices.length else s.notices.tail.length, s.occupancy, s.owedCount, ?_, ?_⟩
        · split <;> simp
        · by_cases hc : count = 0 <;> simp [linkEnded, hc, hl]

theorem moveKinds_frame (n : Nat) :
    ∀ (l : List (OwedKind × Option ReadWithin)) (p : State × Record),
      VisitOnly (l.map fun x => reads1 x.2).sum p.1 (moveKinds n l p).1 ∧ OwedOnly p.2 (moveKinds n l p).2 := by
  intro l
  induction l with
  | nil => exact fun p => ⟨(NoticesOnly.refl _).visit, .refl _⟩
  | cons x t ih =>
    intro p
    obtain ⟨k, r⟩ := x
    have h0 := readWithin_visit p.1 r
    unfold moveKinds
    dsimp only
    split
    · split
      · obtain ⟨h1, h2⟩ := ih (pushNotice (readWithin p.1 r)
          ⟨owedBody p.2 k, n, p.2.generation, (readWithin p.1 r).now⟩, { p.2 with owed := p.2.owed.remove k })
        refine ⟨?_, OwedOnly.trans ⟨_, rfl⟩ h2⟩
        have hp : NoticesOnly (readWithin p.1 r) (pushNotice (readWithin p.1 r)
          ⟨owedBody p.2 k, n, p.2.generation, (readWithin p.1 r).now⟩) := ⟨[_], State.occupancy _, State.owedCount _, rfl⟩
        exact ((h0.trans hp.visit).trans h1).mono (by simp)
      · exact ⟨h0.mono (by simp), .refl _⟩
    · obtain ⟨h1, h2⟩ := ih p
      exact ⟨h1.mono (by simp), h2⟩

theorem moveOwed_frame (v : VisitEvents) (s : State) (n : Nat) (r : Record) :
    VisitOnly ((movesWith v).map fun x => reads1 x.2).sum s (moveOwed v s n r).1 ∧ OwedOnly r (moveOwed v s n r).2 := by
  obtain ⟨h1, h2⟩ := moveKinds_frame n (movesWith v) (s, r)
  unfold moveOwed
  refine ⟨?_, h2⟩
  dsimp only
  split
  · have h3 (t : State) (c : Nat) : VisitOnly 0 t { t with owedCount := c } :=
      ⟨0, [], t.linkOut, t.responsesAtEnd, t.noticesAtEnd, t.occupancy, c, Nat.le_refl 0, by simp⟩
    exact h1.trans (h3 _ _)
  · exact h1

/-- What a visit changes beside the copy (R110, R119); `readCount` is how many NOTICE-READs its operand holds. -/
theorem visitActions_frame (v : VisitEvents) (s : State) (n : Nat) (r : Record) :
    VisitOnly (readCount v) s (visitActions v s n r).1 := by
  have hexp (s : State) (r : Record) : NoticesOnly s (visitExpiry s n r).1 := by
    unfold visitExpiry
    split
    · exact (offerNotice_frame s _ _ _).1
    · exact .refl s
  have hidle (s : State) (r : Record) : VisitOnly (reads1 v.idle) s (visitIdle v.idle s n r).1 := by
    have h0 := readWithin_visit s v.idle
    unfold visitIdle
    split
    · dsimp only
      split
      · split
        · refine h0.trans (NoticesOnly.visit ⟨[_], _, _, rfl⟩)
        · exact h0
      · exact h0.trans (offerNotice_frame _ _ _ _).1.visit
    · exact (NoticesOnly.refl s).visit.mono (Nat.zero_le _)
  have hsum : readCount v = reads1 v.idle + ((movesWith v).map fun x => reads1 x.2).sum := by
    simp only [readCount, movesWith, reads1, List.map_cons, List.map_nil, List.sum_cons, List.sum_nil]
    omega
  unfold visitActions
  split
  · exact (NoticesOnly.refl s).visit.mono (Nat.zero_le _)
  · exact (moveOwed_frame v s n r).1.mono (by omega)
  · exact (((hexp _ _).visit.trans (hidle _ _)).trans (moveOwed_frame v _ _ _).1).mono (by omega)

theorem offerFaulted_frame (s : State) (n : Nat) (f : Formed) :
    NoticesOnly s (offerFaulted s n f).1 ∧ OwedOnly f.copy (offerFaulted s n f).2 := by
  unfold offerFaulted
  split
  · exact offerNotice_frame _ _ _ _
  · exact ⟨.refl s, .refl _⟩

/-! ### What the Record Store's operations leave alone -/

/-- What no answer to a requester and no claim touches; the notice queue, the response queue and the Egress
FIFO are only added to, and an operation in progress stays in progress. -/
structure Kept (s t : State) : Prop where
  pending : t.pending = s.pending
  resetPin : t.resetPin = s.resetPin
  device : t.device = s.device
  setup : t.setup = s.setup
  preserved : t.preserved = s.preserved
  restart : t.restart = s.restart
  pass : t.pass = s.pass
  now : t.now = s.now
  tickInProgress : t.tickInProgress = s.tickInProgress
  rules : t.rules = s.rules
  transfer : t.transfer = s.transfer
  ingress : t.ingress = s.ingress
  egressOut : t.egressOut = s.egressOut
  inFlight : t.inFlight = s.inFlight
  lastAcceptance : t.lastAcceptance = s.lastAcceptance
  linkWaits : t.linkWaits = s.linkWaits
  linkOut : t.linkOut = s.linkOut
  responsesAtEnd : t.responsesAtEnd = s.responsesAtEnd
  noticesAtEnd : t.noticesAtEnd = s.noticesAtEnd
  memory : t.memory = s.memory
  freeIndex : t.freeIndex = s.freeIndex
  notices : ∃ new, t.notices = s.notices ++ new
  responses : ∃ new, t.responses = s.responses ++ new
  egress : ∃ new, t.egress = s.egress ++ new
  operation : inOperation t.engine = inOperation s.engine

theorem Kept.refl (s : State) : Kept s s := by
  constructor <;> first | rfl | exact ⟨[], (List.append_nil _).symm⟩

theorem Kept.trans {s t u : State} (h1 : Kept s t) (h2 : Kept t u) : Kept s u where
  pending := h2.pending.trans h1.pending
  resetPin := h2.resetPin.trans h1.resetPin
  device := h2.device.trans h1.device
  setup := h2.setup.trans h1.setup
  preserved := h2.preserved.trans h1.preserved
  restart := h2.restart.trans h1.restart
  pass := h2.pass.trans h1.pass
  now := h2.now.trans h1.now
  tickInProgress := h2.tickInProgress.trans h1.tickInProgress
  rules := h2.rules.trans h1.rules
  transfer := h2.transfer.trans h1.transfer
  ingress := h2.ingress.trans h1.ingress
  egressOut := h2.egressOut.trans h1.egressOut
  inFlight := h2.inFlight.trans h1.inFlight
  lastAcceptance := h2.lastAcceptance.trans h1.lastAcceptance
  linkWaits := h2.linkWaits.trans h1.linkWaits
  linkOut := h2.linkOut.trans h1.linkOut
  responsesAtEnd := h2.responsesAtEnd.trans h1.responsesAtEnd
  noticesAtEnd := h2.noticesAtEnd.trans h1.noticesAtEnd
  memory := h2.memory.trans h1.memory
  freeIndex := h2.freeIndex.trans h1.freeIndex
  notices := by
    obtain ⟨a, ha⟩ := h1.notices
    obtain ⟨b, hb⟩ := h2.notices
    exact ⟨a ++ b, by rw [hb, ha, List.append_assoc]⟩
  responses := by
    obtain ⟨a, ha⟩ := h1.responses
    obtain ⟨b, hb⟩ := h2.responses
    exact ⟨a ++ b, by rw [hb, ha, List.append_assoc]⟩
  egress := by
    obtain ⟨a, ha⟩ := h1.egress
    obtain ⟨b, hb⟩ := h2.egress
    exact ⟨a ++ b, by rw [hb, ha, List.append_assoc]⟩
  operation := h2.operation.trans h1.operation

/-- A state that differs in the Record Store's own fields alone. -/
theorem Kept.of_store (s : State) (stage : Option StageCell) (lines : Vector Line 64) (hand : Fin 64)
    (missTable : List Entry) (occupancy : List Nat) (hold : SweepHold) (cacheQ : List CacheReq)
    (sweepReq : Option SweepReq) (owedCount : Nat) (stats : StoreCounters) (sweepPos interval : Nat)
    (remembered : Bool) (ports : PortCounters) (cellsInside : Nat) :
    Kept s
      { s with
        stage := stage, lines := lines, hand := hand, missTable := missTable, occupancy := occupancy, hold := hold,
        cacheQ := cacheQ, sweepReq := sweepReq, owedCount := owedCount, stats := stats, sweepPos := sweepPos,
        interval := interval, remembered := remembered, ports := ports, cellsInside := cellsInside } := by
  constructor <;> first | rfl | exact ⟨[], (List.append_nil _).symm⟩

theorem NoticesOnly.kept {s t : State} (h : NoticesOnly s t) : Kept s t := by
  obtain ⟨new, o, c, rfl⟩ := h
  constructor <;> first | rfl | exact ⟨[], (List.append_nil _).symm⟩ | exact ⟨new, rfl⟩

theorem answered_kept {s : State} (h : inOperation s.engine = false) (c : Command) (o : OutcomeCode) (p : List Byte) :
    Kept s (answered s c o p) := by
  unfold answered
  split <;> constructor <;> first | rfl | exact ⟨[], (List.append_nil _).symm⟩ | exact ⟨_, rfl⟩ | exact h.symm

theorem settleCell_kept (s : State) (c : Cell) (v : Verdict) : Kept s (settleCell s c v) := by
  cases v <;> constructor <;> first | rfl | exact ⟨[], (List.append_nil _).symm⟩ | exact ⟨_, rfl⟩

theorem offerJudged_frame (s : State) (n : Nat) (j : Judged) :
    NoticesOnly s (offerJudged s n j).1 ∧ OwedOnly j.copy (offerJudged s n j).2 := by
  unfold offerJudged
  split
  · exact ⟨.refl s, .refl _⟩
  · exact offerNotice_frame _ _ _ _

theorem claimCell_kept (s : State) (i : Fin 64) (n : Nat) (r : Record) (d p : Bool) (c : Cell) :
    Kept s (claimCell s i n r d p c) := by
  unfold claimCell
  exact ((offerJudged_frame s n _).1.kept.trans (by
    constructor <;> first | rfl | exact ⟨[], (List.append_nil _).symm⟩)).trans (settleCell_kept _ _ _)

/-- A command's claim changes no more than the Occupancy Map and the owed-record count beside the line. -/
theorem claimOf_frame (s : State) (m : Met) (c : Command) : NoticesOnly s (claimOf s m c).state := by
  have same (o : OutcomeCode) : NoticesOnly s (m.unchanged s o).state := .refl s
  have st (x : RecState) : NoticesOnly s (m.withState s x).state := .refl s
  have fin (r : Record) : NoticesOnly s (endAdmission s m.number r) :=
    ⟨[], _, _, by simp only [List.append_nil]; rfl⟩
  unfold claimOf
  split
  · unfold claimAdmit
    repeat' split
    all_goals first | exact same _ | exact ⟨[], _, s.owedCount, by simp; rfl⟩
  split
  · unfold claimAmend
    repeat' split
    all_goals first | exact same _ | exact .refl s
  split
  · unfold claimHold
    repeat' split
    all_goals first | exact same _ | exact st _
  split
  · unfold claimRelease
    repeat' split
    all_goals first | exact same _ | exact st _
  split
  · unfold claimRetire
    repeat' split
    all_goals first | exact same _ | exact fin _
  split
  · exact .refl s
  split
  · unfold claimPin
    repeat' split
    all_goals first | exact same _ | exact .refl s
  split
  · unfold claimUnpin
    repeat' split
    all_goals first | exact same _ | exact .refl s
  · exact same _

theorem claimCommand_eq (s : State) (i : Fin 64) (m : Met) (d : Bool) (c : Command) :
    claimCommand s i m d c =
      answered
        ((claimOf s m c).state.setLine i
          (.valid m.number (claimOf s m c).copy (d || (claimOf s m c).copy != m.copy) true (claimOf s m c).pinned)) c
        (claimOf s m c).outcome (claimOf s m c).payload :=
  complete_eq_answered _ _ _ _

theorem setLine_kept (s : State) (i : Fin 64) (l : Line) : Kept s (s.setLine i l) := by
  constructor <;> first | rfl | exact ⟨[], (List.append_nil _).symm⟩

theorem claimCommand_kept {s : State} (h : inOperation s.engine = false) (i : Fin 64) (m : Met) (d : Bool)
    (c : Command) : Kept s (claimCommand s i m d c) := by
  rw [claimCommand_eq]
  have h1 := (claimOf_frame s m c).kept
  refine (h1.trans (setLine_kept _ _ _)).trans (answered_kept ?_ _ _ _)
  exact h1.operation.trans h

theorem setTable_kept (s : State) (t : List Entry) : Kept s { s with missTable := t } :=
  .of_store s s.stage s.lines s.hand t s.occupancy s.hold s.cacheQ s.sweepReq s.owedCount s.stats s.sweepPos s.interval
    s.remembered s.ports s.cellsInside

theorem serveCommand_kept (s : State) (n : Nat) : Kept s (serveCommand s n) := by
  unfold serveCommand
  split
  · exact .refl s
  · split
    · rename_i c h _ _
      refine (setTable_kept s _).trans (claimCommand_kept ?_ _ _ _ _)
      simp_all [inOperation]
    · exact .refl s

/-- An entry opened: the fields of R71 and R67, and no other. -/
theorem openEntry_eq {s t : State} {n : Nat} {ph : Phase} {w : Waiter} (h : openEntry s n ph w = some t) :
    ∃ v, selectVictim s n = some v ∧
      t =
        { s with
          lines := v.lines
          hand := v.hand
          missTable := s.missTable ++
            [{ number := n, phase := ph, target := v.target, fillDone := false, waiters := [w] }]
          cacheQ := s.cacheQ ++ v.request ++
            (if ph = .reading ∧ (lineAt v.lines v.target).isFilling = true then [.fill n] else [])
          stats := { s.stats with misses := s.stats.misses + 1 } } := by
  unfold openEntry at h
  split at h
  · cases h
  · rename_i v hv
    cases h
    exact ⟨v, hv, by simp [Entry.ready]⟩

theorem openEntry_kept {s t : State} {n : Nat} {ph : Phase} {w : Waiter} (h : openEntry s n ph w = some t) :
    Kept s t := by
  obtain ⟨v, _, rfl⟩ := openEntry_eq h
  constructor <;> first | rfl | exact ⟨[], (List.append_nil _).symm⟩

theorem tryOpen_eq {s t : State} {n : Nat} {w : Waiter} (h : tryOpen s n w = some t) :
    s.missTable.length < 8 ∧ openEntry s n (standing s n).phase w = some t := by
  unfold tryOpen at h
  split at h
  · exact ⟨by assumption, h⟩
  · cases h

theorem discardCell_kept (s : State) (x : Discard) : Kept s (discardCell s x) := by
  constructor <;> first | rfl | exact ⟨[], (List.append_nil _).symm⟩

theorem setStage_kept (s : State) (x : Option StageCell) : Kept s { s with stage := x } :=
  .of_store s x s.lines s.hand s.missTable s.occupancy s.hold s.cacheQ s.sweepReq s.owedCount s.stats s.sweepPos
    s.interval s.remembered s.ports s.cellsInside

theorem overflowCell_kept (s : State) (c : Cell) (n : Nat) : Kept s (overflowCell s c n) := by
  unfold overflowCell
  split
  · exact (setStage_kept s none).trans (discardCell_kept _ _)
  · exact setStage_kept s _

theorem offerCell_kept (s : State) (c : Cell) (n : Nat) : Kept s (offerCell s c n) := by
  unfold offerCell
  split
  · split
    · exact .of_store s none s.lines s.hand _ s.occupancy s.hold s.cacheQ s.sweepReq s.owedCount s.stats s.sweepPos
        s.interval s.remembered s.ports s.cellsInside
    · exact (setStage_kept s none).trans (discardCell_kept _ _)
  · exact setStage_kept s _
  · split
    · split
      · rename_i h
        exact (openEntry_kept (tryOpen_eq h).2).trans (setStage_kept _ _)
      · exact overflowCell_kept _ _ _
    · exact overflowCell_kept _ _ _

theorem serveCell_kept (s : State) (n : Nat) : Kept s (serveCell s n) := by
  unfold serveCell
  split
  · exact .refl s
  · split
    · exact ((setTable_kept s _).trans (claimCell_kept _ _ _ _ _ _ _)).trans
        (serveCommand_kept _ _)
    · exact .refl s

theorem countHit_kept (s : State) : Kept s (countHit s) := by
  constructor <;> first | rfl | exact ⟨[], (List.append_nil _).symm⟩

theorem setEngine_kept (s : State) (e : Engine) (h : inOperation e = inOperation s.engine) :
    Kept s { s with engine := e } := by
  constructor <;> first | rfl | exact ⟨[], (List.append_nil _).symm⟩ | exact h

theorem recordStep_kept {s : State} (h : inOperation s.engine = false) (c : Command) (n : Nat) :
    Kept s (recordStep s c n) := by
  have wait (t : State) (ht : Kept s t) (e : Engine) (he : inOperation e = false) : Kept s { t with engine := e } :=
    ht.trans (setEngine_kept _ _ (he.trans (ht.operation.trans h).symm))
  unfold recordStep
  split
  · exact wait { s with missTable := joinEntry s.missTable n (.command false) } (setTable_kept s _)
      (.waitingOnEntry c) rfl
  · split
    · exact (countHit_kept s).trans (claimCommand_kept (by exact h) _ _ _ _)
    · exact .refl s
  · split
    · rename_i t ht
      exact wait t (openEntry_kept (tryOpen_eq ht).2) (.waitingOnEntry c) rfl
    · exact wait s (.refl s) (.waitingForEntry c) rfl

/-- `s` with the first `j` notices removed by link transactions, the last of which left these. -/
abbrev readFrom (s : State) (j : Nat) (out : List Byte) (responses notices : Nat) : State :=
  { s with
    notices := s.notices.drop j, linkOut := out, responsesAtEnd := responses, noticesAtEnd := notices }

/-- A visit keeps what a claim keeps, the NOTICE-READs within it apart: at most `k` of them removed a notice. -/
def KeptByVisit (k : Nat) (s t : State) : Prop :=
  ∃ j out responses notices, j ≤ k ∧ Kept (readFrom s j out responses notices) t

theorem VisitOnly.kept {k : Nat} {s t : State} (h : VisitOnly k s t) : KeptByVisit k s t := by
  obtain ⟨j, n, out, r, a, o, c, hk, rfl⟩ := h
  refine ⟨j, out, r, a, hk, ?_⟩
  constructor <;> first | rfl | exact ⟨[], (List.append_nil _).symm⟩ | exact ⟨n, rfl⟩

theorem Kept.visit {s t : State} (h : Kept s t) (k : Nat) : KeptByVisit k s t :=
  ⟨0, s.linkOut, s.responsesAtEnd, s.noticesAtEnd, Nat.zero_le k, h⟩

theorem KeptByVisit.then {k : Nat} {s t u : State} (h : KeptByVisit k s t) (h2 : Kept t u) : KeptByVisit k s u := by
  obtain ⟨j, out, r, a, hk, h1⟩ := h
  exact ⟨j, out, r, a, hk, h1.trans h2⟩

theorem Kept.readFrom {s t : State} (h : Kept s t) (j : Nat) (out : List Byte) (r a : Nat) :
    Kept (readFrom s j out r a) (readFrom t j out r a) := by
  obtain ⟨h1, h2, h3, h4, h5, h6, h7, h8, h9, h10, h11, h12, h13, h14, h15, h16, h17, h18, h19, h20, h21, h22, h23, h24,
    h25⟩ := h
  obtain ⟨new, hn⟩ := h22
  exact ⟨h1, h2, h3, h4, h5, h6, h7, h8, h9, h10, h11, h12, h13, h14, h15, h16, rfl, rfl, rfl, h20, h21,
    ⟨new.drop (j - s.notices.length), by simp [hn, List.drop_append]⟩, h23, h24, h25⟩

theorem KeptByVisit.after {k : Nat} {s t u : State} (h2 : Kept s t) (h : KeptByVisit k t u) : KeptByVisit k s u := by
  obtain ⟨j, out, r, a, hk, h1⟩ := h
  exact ⟨j, out, r, a, hk, (h2.readFrom j out r a).trans h1⟩

theorem visitLine_kept (v : VisitEvents) (s : State) (i : Fin 64) : KeptByVisit (readCount v) s (visitLine v s i) := by
  unfold visitLine
  split
  · exact (visitActions_frame v _ _ _).kept.then (setLine_kept _ _ _)
  · exact (Kept.refl s).visit _

theorem answer_kept {s : State} (h : inOperation s.engine = false) (c : Command) (o : OutcomeCode) :
    Kept s (answer s c o) := by
  rw [answer_eq_answered]
  exact answered_kept h c o []

theorem recordCommand_kept {s : State} (h : inOperation s.engine = false) (c : Command) (o : Option OutcomeCode) :
    Kept s (recordCommand s c o) := by
  unfold recordCommand
  split
  · split
    · split
      · exact answer_kept h _ _
      · exact recordStep_kept h _ _
    · exact answer_kept h _ _
  · exact answer_kept h _ _

theorem engineStep_kept (s : State) : Kept s (engineStep s) := by
  unfold engineStep
  split
  · rename_i he
    split
    · exact recordCommand_kept (by rw [he]; rfl) _ _
    · exact .refl s
  · rename_i he
    exact recordStep_kept (by rw [he]; rfl) _ _
  · exact .refl s

theorem engineClaim_kept (s : State) : Kept s (engineClaim s) := by
  unfold engineClaim
  split
  · exact .refl s
  · exact engineStep_kept s

theorem claimsWithin_kept (k : Nat) (s : State) : Kept s (claimsWithin k s) := by
  induction k generalizing s with
  | zero => exact .refl s
  | succ k ih => exact (engineClaim_kept s).trans (ih _)

theorem beginVisit_kept (v : VisitEvents) (s : State) : KeptByVisit (readCount v) s (beginVisit v s) := by
  have pos (n : Nat) : Kept s { s with sweepPos := n } :=
    .of_store s s.stage s.lines s.hand s.missTable s.occupancy s.hold s.cacheQ s.sweepReq s.owedCount s.stats n
      s.interval s.remembered s.ports s.cellsInside
  unfold beginVisit
  split
  · exact (Kept.refl s).visit _
  · rename_i n _
    dsimp only
    split
    · exact (pos n).visit _
    · exact .after ((pos n).trans (claimsWithin_kept _ _)) (visitLine_kept v _ _)
    · exact (pos n).visit _
    · exact (pos n).visit _
    · exact (Kept.of_store s s.stage s.lines s.hand s.missTable s.occupancy _ s.cacheQ _ s.owedCount s.stats n
        s.interval s.remembered s.ports s.cellsInside).visit _

theorem takeDueStep_kept (v : VisitEvents) (s : State) : KeptByVisit (readCount v) s (takeDueStep v s) := by
  have h0 : Kept s { s with interval := 0 } :=
    .of_store s s.stage s.lines s.hand s.missTable s.occupancy s.hold s.cacheQ s.sweepReq s.owedCount s.stats
      s.sweepPos 0 s.remembered s.ports s.cellsInside
  unfold takeDueStep takeSweepStep
  split
  · exact (Kept.of_store s s.stage s.lines s.hand s.missTable s.occupancy s.hold s.cacheQ s.sweepReq s.owedCount s.stats
      s.sweepPos 0 true s.ports s.cellsInside).visit _
  · exact .after h0 (beginVisit_kept v _)

theorem requestReady_kept (s t : State) : Kept t (requestReady s t) := by
  constructor <;> first | rfl | exact ⟨[], (List.append_nil _).symm⟩

/-! ### Reads -/

/-- A read of an image changes the memory's errors, the free-value index and two counters, and no data of the memory.
-/
theorem readImage_frame (s : State) (n : Nat) (source : FaultSource) (vacant : Bool) (damage : Damage) :
    (readImage s n source vacant damage).1 =
      { s with
        memory := s.memory.addDamage n damage
        freeIndex := s.freeIndex + 1
        stats := (readImage s n source vacant damage).1.stats } := rfl

end Sys2Proof.Laws
end

