-- ==== Sys2Proof/Laws/Events.lean ====
section
/-! SUPPORT. What the effects of the events leave alone: each is a `Kept` from the state with the event's own few fields
put in. And the ways an event's answer can come about. -/

namespace Sys2Proof.Laws

open Sys2Proof Sys2Proof.Machine Sys2Proof.Safety

/-! ### The answer of an event -/

/-- An event that is nothing while the RESET pin is asserted: what holds of `s` with itself and with the effect holds
of the answer. -/
theorem whileRunning_elim {P : State → Prop} {s t u : State} (h : whileRunning s u = .next t) (hs : P s) (hu : P u) :
    P t := by
  unfold whileRunning at h
  split at h <;> cases h <;> assumption

theorem completing_elim {P : State → Prop} {n : Nat} {s t u : State} (h : completing n s u = .next t) (hs : P s)
    (hu : P u) : P t := by
  unfold completing at h
  split at h
  · cases h
    exact hs
  · split at h <;> cases h
    exact hu

theorem onLink_elim {P : State → Prop} {s t u : State} (h : onLink s u = .next t) (hs : P s) (hu : P u) : P t := by
  unfold onLink at h
  split at h <;> cases h <;> assumption

theorem onCurrent_elim {P : State → Prop} {s t : State} {code : Byte} {f : Command → State}
    (h : onCurrent s code f = .next t) (hs : P s)
    (hf : ∀ c, s.engine = .checking c → c.code = code → P (f c)) : P t := by
  refine whileRunning_elim h hs ?_
  split
  · rename_i c hc
    split
    · exact hf c hc (by assumption)
    · exact hs
  · exact hs

/-! ### The cell path -/

theorem unadmittedCell_kept (s : State) (c : Cell) (x : Discard) (n : Option Nat) :
    Kept s (unadmittedCell s c x n) := by
  unfold unadmittedCell
  split
  · exact discardCell_kept _ _
  · exact setStage_kept _ _

theorem headLeft_kept (s : State) (c : Cell) : Kept s (headLeft s c) := by
  unfold headLeft
  split
  · unfold classifyCell
    split
    · exact unadmittedCell_kept _ _ _ _
    · split
      · exact offerCell_kept _ _ _
      · exact unadmittedCell_kept _ _ _ _
  · exact discardCell_kept _ _

theorem fillPlace_kept (s : State) (c : Cell) (d : Disposition) : Kept s (fillPlace s c d) := by
  constructor <;> first | rfl | exact ⟨[], (List.append_nil _).symm⟩ | exact ⟨_, rfl⟩

theorem grantStage_kept (s : State) : Kept s (grantStage s) := by
  unfold grantStage
  split
  · exact .refl s
  · exact (setStage_kept s none).trans (fillPlace_kept _ _ _)
  · split
    · split
      · exact ((setStage_kept s none).trans (countHit_kept _)).trans (claimCell_kept _ _ _ _ _ _ _)
      · exact .refl s
    · exact offerCell_kept _ _ _

/-! ### Record memory -/

theorem countRead_kept (s : State) (f : Formed) : Kept s (countRead s f) := by
  constructor <;> first | rfl | exact ⟨[], (List.append_nil _).symm⟩

theorem countWriteBack_kept (s : State) : Kept s (countWriteBack s) := by
  constructor <;> first | rfl | exact ⟨[], (List.append_nil _).symm⟩

/-- A state with the damage a read finds in its memory. -/
abbrev damaged (s : State) (n : Nat) (damage : Damage) : State :=
  { s with memory := s.memory.addDamage n damage, freeIndex := s.freeIndex + 1 }

theorem readImage_kept (s : State) (n : Nat) (source : FaultSource) (vacant : Bool) (damage : Damage) :
    Kept (damaged s n damage) (readImage s n source vacant damage).1 :=
  countRead_kept _ _

theorem offerFaulted_kept (s : State) (n : Nat) (f : Formed) : Kept s (offerFaulted s n f).1 :=
  (offerFaulted_frame s n f).1.kept

theorem filled_kept (s : State) (n : Nat) (i : Fin 64) (damage : Damage) :
    Kept (damaged s n damage) (filled s n i damage) := by
  unfold filled
  exact ((((readImage_kept s n _ _ damage).trans (offerFaulted_kept _ _ _)).trans (setLine_kept _ _ _)).trans
    (setTable_kept _ _)).trans (serveCommand_kept _ _)

theorem setSweep_kept (s : State) (h : SweepHold) (r : Option SweepReq) :
    Kept s { s with hold := h, sweepReq := r } := by
  constructor <;> first | rfl | exact ⟨[], (List.append_nil _).symm⟩

theorem sweepVisited_kept (s : State) (n : Nat) (damage : Damage) (v : VisitEvents) :
    KeptByVisit (readCount v) (damaged s n damage) (sweepVisited s n damage v) := by
  unfold sweepVisited
  exact (KeptByVisit.after ((readImage_kept s n _ _ damage).trans (offerFaulted_kept _ _ _))
    (visitActions_frame v _ _ _).kept).then (setSweep_kept _ _ _)

theorem setHoldTable_kept (s : State) (h : SweepHold) (t : List Entry) :
    Kept s { s with hold := h, missTable := t } := by
  constructor <;> first | rfl | exact ⟨[], (List.append_nil _).symm⟩

theorem sweepWritten_kept (s : State) (n : Nat) (copy : Record) (v : VisitEvents) :
    KeptByVisit (readCount v) (writeImage s n copy) (sweepWritten s n copy v) := by
  unfold sweepWritten
  dsimp only
  generalize hu : requestReady s _ = u
  have hk : Kept (writeImage s n copy) u := hu ▸ (setHoldTable_kept _ _ _).trans (requestReady_kept s _)
  split
  · refine .after (hk.trans (t := u) (u := { u with remembered := false }) ?_) (beginVisit_kept v _)
    constructor <;> first | rfl | exact ⟨[], (List.append_nil _).symm⟩
  · exact hk.visit _

theorem evictionWritten_kept (s : State) (i : Fin 64) (old : Nat) (copy : Record) (reserved : Nat) :
    Kept (writeImage s old copy) (evictionWritten s i old copy reserved) := by
  unfold evictionWritten
  exact ((countWriteBack_kept _).trans ((setLine_kept _ i _).trans (setTable_kept _ _))).trans
    (requestReady_kept s _)

theorem emptyLines_kept (s : State) (k : Nat) : Kept { s with restart := .emptied k } (emptyLines s k) := by
  constructor <;> first | rfl | exact ⟨[], (List.append_nil _).symm⟩

theorem Kept.setRestart {s t : State} (h : Kept s t) (x : RestartPhase) :
    Kept { s with restart := x } { t with restart := x } := by
  obtain ⟨h1, h2, h3, h4, h5, h6, h7, h8, h9, h10, h11, h12, h13, h14, h15, h16, h17, h18, h19, h20, h21, h22, h23, h24,
    h25⟩ := h
  exact ⟨h1, h2, h3, h4, h5, rfl, h7, h8, h9, h10, h11, h12, h13, h14, h15, h16, h17, h18, h19, h20, h21, h22, h23, h24,
    h25⟩

/-- A write-back of RESTART completes: the image written apart, `restart` is as it was, or every line is EMPTY. -/
theorem restartWritten_kept (s : State) (i : Fin 64) (n : Nat) (copy : Record) (f p : Bool) (k : Nat) :
    Kept (writeImage s n copy) (restartWritten s i n copy f p k) ∨
      Kept { writeImage s n copy with restart := .emptied k } (restartWritten s i n copy f p k) ∧ s.inFlight = [] := by
  unfold restartWritten
  dsimp only
  split
  · rename_i h
    right
    rw [Bool.and_eq_true] at h
    exact ⟨(Kept.setRestart ((countWriteBack_kept _).trans (setLine_kept _ _ _)) _).trans (emptyLines_kept _ _),
      List.isEmpty_iff.1 h.2⟩
  · left
    exact (countWriteBack_kept _).trans (setLine_kept _ _ _)

/-! ### The ends of the device-wide operations -/

/-- The operation in progress completes: the command in it is answered. -/
theorem completeOperation_eq (s : State) (p : List Byte) :
    (∃ c, s.engine = .inOperation c ∧ completeOperation s p = answered s c .ok p) ∨
      inOperation s.engine = false ∧ completeOperation s p = s := by
  unfold completeOperation
  split
  · rename_i c hc
    exact .inl ⟨c, hc, complete_eq_answered _ _ _ _⟩
  · rename_i h
    right
    refine ⟨?_, rfl⟩
    cases he : s.engine <;> first | rfl | exact absurd he (h _)

end Sys2Proof.Laws
end

