-- ==== Sys2Proof/Laws/Memory.lean ====
section
/-! SUPPORT. Record memory: every operation keeps the canonical form, and what each write leaves to be read. -/

namespace Sys2Proof.Laws.Memory

open Sys2Proof Sys2Proof.Machine

/-! ### Sparse lists -/

section Sparse

variable {α : Type}

theorem mem_sparsePut {m : List (Nat × α)} {a : Nat} {v : α} {p : Nat × α} (h : p ∈ sparsePut m a v) :
    p = (a, v) ∨ p ∈ m := by
  induction m with
  | nil => simpa [sparsePut] using h
  | cons q t ih =>
    obtain ⟨b, w⟩ := q
    simp only [sparsePut] at h
    split at h
    · simpa using h
    · split at h
      · rcases List.mem_cons.1 h with h | h
        · exact .inl h
        · exact .inr (by simp [h])
      · rcases List.mem_cons.1 h with h | h
        · exact .inr (by simp [h])
        · rcases ih h with h | h
          · exact .inl h
          · exact .inr (by simp [h])

theorem pairwise_sparsePut {m : List (Nat × α)} (h : m.Pairwise fun p q => p.1 < q.1) (a : Nat) (v : α) :
    (sparsePut m a v).Pairwise fun p q => p.1 < q.1 := by
  induction m with
  | nil => simp [sparsePut]
  | cons q t ih =>
    obtain ⟨b, w⟩ := q
    obtain ⟨hb, ht⟩ := List.pairwise_cons.1 h
    simp only [sparsePut]
    split
    · rename_i hab
      refine List.pairwise_cons.2 ⟨fun p hp => ?_, h⟩
      rcases List.mem_cons.1 hp with rfl | hp
      · exact hab
      · exact lt_trans hab (hb p hp)
    · split
      · rename_i hab
        subst hab
        exact List.pairwise_cons.2 ⟨hb, ht⟩
      · rename_i h1 h2
        refine List.pairwise_cons.2 ⟨fun p hp => ?_, ih ht⟩
        rcases mem_sparsePut hp with rfl | hp
        · show b < a
          omega
        · exact hb p hp

/-- The head of a list decides a look-up of its key. -/
theorem lookup_head (b c : Nat) (w : α) (t : List (Nat × α)) :
    List.lookup b ((c, w) :: t) = if b = c then some w else t.lookup b := by
  by_cases hb : b = c
  · simp [hb]
  · have : (b == c) = false := by simpa using hb
    rw [List.lookup_cons, this, if_neg hb]

theorem lookup_sparsePut (m : List (Nat × α)) (a : Nat) (v : α) (b : Nat) :
    (sparsePut m a v).lookup b = if b = a then some v else m.lookup b := by
  induction m with
  | nil => simp [sparsePut, lookup_head]
  | cons q t ih =>
    obtain ⟨c, w⟩ := q
    simp only [sparsePut]
    split
    · exact lookup_head _ _ _ _
    · split
      · rename_i hac
        subst hac
        rw [lookup_head, lookup_head]
        split <;> rfl
      · rename_i h1 h2
        rw [lookup_head, lookup_head, ih]
        by_cases hbc : b = c
        · subst hbc
          rw [if_pos rfl, if_pos rfl, if_neg fun e => h2 e.symm]
        · rw [if_neg hbc, if_neg hbc]

theorem lookup_sparseErase (m : List (Nat × α)) (a b : Nat) :
    (sparseErase m a).lookup b = if b = a then none else m.lookup b := by
  induction m with
  | nil => simp [sparseErase]
  | cons q t ih =>
    obtain ⟨c, w⟩ := q
    unfold sparseErase at ih ⊢
    by_cases hca : c = a
    · subst hca
      rw [List.filter_cons_of_neg (by simp), ih, lookup_head]
      by_cases hb : b = c <;> simp [hb]
    · rw [List.filter_cons_of_pos (by simpa using hca), lookup_head, lookup_head, ih]
      by_cases hbc : b = c
      · subst hbc
        simp [hca]
      · simp [hbc]

variable [DecidableEq α]

theorem sparseWf_sparseSet {m : List (Nat × α)} {d : α} {bound : Nat} (h : sparseWf m d bound) {a : Nat}
    (ha : a < bound) (v : α) : sparseWf (sparseSet m d a v) d bound := by
  obtain ⟨h1, h2⟩ := h
  unfold sparseSet
  split
  · exact ⟨h1.filter _, fun p hp => h2 p (List.mem_filter.1 hp).1⟩
  · rename_i hv
    refine ⟨pairwise_sparsePut h1 a v, fun p hp => ?_⟩
    rcases mem_sparsePut hp with rfl | hp
    · exact ⟨hv, ha⟩
    · exact h2 p hp

/-- A key written reads back, and every other key reads as before: of any list, sorted or not. -/
theorem sparseGet_sparseSet (m : List (Nat × α)) (d : α) (a : Nat) (v : α) (b : Nat) :
    sparseGet (sparseSet m d a v) d b = if b = a then v else sparseGet m d b := by
  unfold sparseGet sparseSet
  split
  · rename_i hv
    rw [lookup_sparseErase]
    by_cases hb : b = a <;> simp [hb, hv]
  · rw [lookup_sparsePut m a v b]
    by_cases hb : b = a <;> simp [hb]

end Sparse

/-! ### The canonical form is kept -/

theorem wf_empty : Memory.wf ⟨[], []⟩ := by simp [Memory.wf, sparseWf]

/-- Reset memory is in canonical form. -/
theorem wf_reset : Memory.wf State.reset.memory := wf_empty

theorem wf_writeByte {m : Memory} (h : m.wf) (a : Nat) (v : Byte) : (m.writeByte a v).wf := by
  unfold Memory.writeByte
  split
  · exact ⟨sparseWf_sparseSet h.1 (by assumption) v, h.2⟩
  · exact h

theorem wf_setError {m : Memory} (h : m.wf) (w : Nat) (e : ErrorMask) : (m.setError w e).wf := by
  unfold Memory.setError
  split
  · exact ⟨h.1, sparseWf_sparseSet h.2 (by assumption) e⟩
  · exact h

theorem wf_writeBytes {m : Memory} (h : m.wf) (a : Nat) (l : List Byte) : (m.writeBytes a l).wf := by
  induction l generalizing m a with
  | nil => exact h
  | cons b t ih => exact ih (wf_writeByte h a b) (a + 1)

theorem wf_writeWord {m : Memory} (h : m.wf) (w : Nat) (d : DataWord) : (m.writeWord w d).wf :=
  wf_setError (wf_writeBytes h _ _) _ _

theorem wf_writeWords {m : Memory} (h : m.wf) (w : Nat) (l : List DataWord) : (m.writeWords w l).wf := by
  induction l generalizing m w with
  | nil => exact h
  | cons d t ih => exact ih (wf_writeWord h w d) (w + 1)

theorem wf_addDamage {m : Memory} (h : m.wf) (number : Nat) (damage : Damage) : (m.addDamage number damage).wf := by
  unfold Memory.addDamage
  induction damage generalizing m with
  | nil => exact h
  | cons p t ih =>
    simp only [List.foldl_cons]
    apply ih
    split
    · exact wf_setError h _ _
    · exact h

theorem wf_ofContents (sram : List Host.Cell) (errors : List (Nat × ErrorMask)) :
    (Memory.ofContents sram errors).wf := by
  have hb : ∀ (l : List Host.Cell) (m : Memory), m.wf → (l.foldl (fun m p => m.writeByte p.1 p.2) m).wf := by
    intro l
    induction l with
    | nil => exact fun m h => h
    | cons p t ih => exact fun m h => ih _ (wf_writeByte h _ _)
  have he : ∀ (l : List (Nat × ErrorMask)) (m : Memory), m.wf →
      (l.foldl (fun m p => m.setError p.1 p.2) m).wf := by
    intro l
    induction l with
    | nil => exact fun m h => h
    | cons p t ih => exact fun m h => ih _ (wf_setError h _ _)
  exact he _ _ (hb _ _ wf_empty)

/-- The write of an image keeps the canonical form. -/
theorem wf_writeImage {s : State} (h : s.memory.wf) (n : Nat) (r : Record) : (writeImage s n r).memory.wf :=
  wf_writeWords h _ _

/-- The read of an image keeps the canonical form. -/
theorem wf_readImage {s : State} (h : s.memory.wf) (n : Nat) (source : FaultSource) (vacant : Bool)
    (damage : Damage) : (readImage s n source vacant damage).1.memory.wf :=
  wf_addDamage h _ _

/-! ### Bytes and words after a write -/

theorem readByte_writeByte (m : Memory) (a : Nat) (v : Byte) (b : Nat) :
    (m.writeByte a v).readByte b = if b = a ∧ a < 8 * Config.memoryWords then v else m.readByte b := by
  unfold Memory.writeByte
  split
  · rename_i ha
    simp only [Memory.readByte, sparseGet_sparseSet, ha, and_true]
  · rename_i ha
    simp only [ha, and_false, if_false]

theorem errorAt_setError (m : Memory) (w : Nat) (e : ErrorMask) (v : Nat) :
    (m.setError w e).errorAt v = if v = w ∧ w < Config.memoryWords then e else m.errorAt v := by
  unfold Memory.setError
  split
  · rename_i hw
    simp only [Memory.errorAt, sparseGet_sparseSet, hw, and_true]
  · rename_i hw
    simp only [hw, and_false, if_false]

theorem errorAt_writeByte (m : Memory) (a : Nat) (v : Byte) (w : Nat) :
    (m.writeByte a v).errorAt w = m.errorAt w := by
  unfold Memory.writeByte
  split <;> rfl

theorem readByte_setError (m : Memory) (w : Nat) (e : ErrorMask) (a : Nat) :
    (m.setError w e).readByte a = m.readByte a := by
  unfold Memory.setError
  split <;> rfl

theorem readWord_setError (m : Memory) (w : Nat) (e : ErrorMask) (k : Nat) :
    (m.setError w e).readWord k = m.readWord k := by
  simp only [Memory.readWord, readByte_setError]

theorem errorAt_writeBytes (m : Memory) (a : Nat) (l : List Byte) (w : Nat) :
    (m.writeBytes a l).errorAt w = m.errorAt w := by
  induction l generalizing m a with
  | nil => rfl
  | cons b t ih => exact (ih _ _).trans (errorAt_writeByte m a b w)

theorem readByte_writeBytes (m : Memory) (a : Nat) (l : List Byte) (b : Nat)
    (h : a + l.length ≤ 8 * Config.memoryWords) :
    (m.writeBytes a l).readByte b = if a ≤ b ∧ b < a + l.length then l.getD (b - a) 0 else m.readByte b := by
  induction l generalizing m a with
  | nil => rw [if_neg (by simp)]; rfl
  | cons x t ih =>
    rw [List.length_cons] at h ⊢
    rw [show m.writeBytes a (x :: t) = (m.writeByte a x).writeBytes (a + 1) t from rfl, ih _ _ (by omega),
      readByte_writeByte]
    by_cases hb : b = a
    · subst hb
      rw [if_neg (by omega), if_pos ⟨rfl, by omega⟩, if_pos ⟨le_rfl, by omega⟩, Nat.sub_self]
      rfl
    · by_cases hlt : a + 1 ≤ b ∧ b < a + 1 + t.length
      · obtain ⟨k, rfl⟩ : ∃ k, b = a + 1 + k := ⟨b - (a + 1), by omega⟩
        rw [if_pos hlt, if_pos (by omega), show a + 1 + k - (a + 1) = k by omega, show a + 1 + k - a = k + 1 by omega]
        rfl
      · rw [if_neg hlt, if_neg (fun e => hb e.1), if_neg (by omega)]

theorem wordBytes_length (d : DataWord) : (wordBytes d).length = 8 := rfl

theorem readByte_writeWord (m : Memory) (w : Nat) (d : DataWord) (hw : w < Config.memoryWords) (a : Nat) :
    (m.writeWord w d).readByte a =
      if 8 * w ≤ a ∧ a < 8 * w + 8 then (wordBytes d).getD (a - 8 * w) 0 else m.readByte a := by
  have h : 8 * w + (wordBytes d).length ≤ 8 * Config.memoryWords := by
    rw [wordBytes_length]
    omega
  rw [Memory.writeWord, readByte_setError, readByte_writeBytes _ _ _ _ h, wordBytes_length]

/-- A word written reads back; every other word reads as before. -/
theorem readWord_writeWord (m : Memory) (w : Nat) (d : DataWord) (hw : w < Config.memoryWords) (k : Nat) :
    (m.writeWord w d).readWord k = if k = w then d else m.readWord k := by
  unfold Memory.readWord
  simp only [readByte_writeWord m w d hw]
  by_cases hk : k = w
  · subst hk
    simp only [show ∀ j, j < 8 → (8 * k ≤ 8 * k + j ∧ 8 * k + j < 8 * k + 8) from fun j hj => by omega,
      show (8 * k ≤ 8 * k ∧ 8 * k < 8 * k + 8) from by omega, Nat.add_sub_cancel_left, Nat.sub_self,
      show (7 : Nat) < 8 by decide, show (6 : Nat) < 8 by decide, show (5 : Nat) < 8 by decide,
      show (4 : Nat) < 8 by decide, show (3 : Nat) < 8 by decide, show (2 : Nat) < 8 by decide,
      show (1 : Nat) < 8 by decide, if_true, and_self]
    simp only [wordBytes, List.range, List.range.loop, List.map, List.getD_cons_zero, List.getD_cons_succ]
    ext j hj
    simp only [BitVec.getElem_append, BitVec.getElem_extractLsb']
    repeat' split
    all_goals (rw [BitVec.getLsbD_eq_getElem (by omega)]; congr 1; omega)
  · have (j : Nat) (hj : j < 8) : ¬(8 * w ≤ 8 * k + j ∧ 8 * k + j < 8 * w + 8) := by omega
    rw [if_neg (this 7 (by decide)), if_neg (this 6 (by decide)), if_neg (this 5 (by decide)),
      if_neg (this 4 (by decide)), if_neg (this 3 (by decide)), if_neg (this 2 (by decide)),
      if_neg (this 1 (by decide)), if_neg (by omega), if_neg hk]

theorem errorAt_writeWord (m : Memory) (w : Nat) (d : DataWord) (hw : w < Config.memoryWords) (k : Nat) :
    (m.writeWord w d).errorAt k = if k = w then 0 else m.errorAt k := by
  rw [Memory.writeWord, errorAt_setError, errorAt_writeBytes]
  simp [hw]

/-- The words written from word `w` on read back without error; every other word and byte is as before. -/
theorem writeWords_spec (m : Memory) (w : Nat) (l : List DataWord) (h : w + l.length ≤ Config.memoryWords) :
    (∀ k, (m.writeWords w l).readWord k = if w ≤ k ∧ k < w + l.length then l.getD (k - w) 0 else m.readWord k) ∧
    (∀ k, (m.writeWords w l).errorAt k = if w ≤ k ∧ k < w + l.length then 0 else m.errorAt k) ∧
    ∀ a, a < 8 * w ∨ 8 * (w + l.length) ≤ a → (m.writeWords w l).readByte a = m.readByte a := by
  induction l generalizing m w with
  | nil =>
    refine ⟨fun k => ?_, fun k => ?_, fun a _ => rfl⟩ <;> rw [if_neg (by simp)] <;> rfl
  | cons d t ih =>
    rw [List.length_cons] at h ⊢
    have hw : w < Config.memoryWords := by omega
    obtain ⟨h1, h2, h3⟩ := ih (m.writeWord w d) (w + 1) (by omega)
    rw [show m.writeWords w (d :: t) = (m.writeWord w d).writeWords (w + 1) t from rfl]
    refine ⟨fun k => ?_, fun k => ?_, fun a ha => ?_⟩
    · rw [h1, readWord_writeWord m w d hw]
      by_cases hk : k = w
      · subst hk
        rw [if_neg (by omega), if_pos rfl, if_pos (by omega), Nat.sub_self]
        rfl
      · by_cases hin : w + 1 ≤ k ∧ k < w + 1 + t.length
        · obtain ⟨j, rfl⟩ : ∃ j, k = w + 1 + j := ⟨k - (w + 1), by omega⟩
          rw [if_pos hin, if_pos (by omega), show w + 1 + j - (w + 1) = j by omega, show w + 1 + j - w = j + 1 by omega]
          rfl
        · rw [if_neg hin, if_neg hk, if_neg (by omega)]
    · rw [h2, errorAt_writeWord m w d hw]
      by_cases hk : k = w
      · subst hk
        rw [if_neg (by omega), if_pos rfl, if_pos (by omega)]
      · by_cases hin : w + 1 ≤ k ∧ k < w + 1 + t.length
        · rw [if_pos hin, if_pos (by omega)]
        · rw [if_neg hin, if_neg hk, if_neg (by omega)]
    · rw [h3 a (by omega), readByte_writeWord m w d hw, if_neg (by omega)]

/-- A word of record memory that exists. -/
theorem image_in_memory {n : Nat} (h : n < Config.maxRecords) : 16 * n + 16 ≤ Config.memoryWords := by
  have : n < 16384 := h
  show 16 * n + 16 ≤ 262144
  omega

/-- Damage found by a read leaves the data bits as they were written. -/
theorem readByte_addDamage (m : Memory) (number : Nat) (damage : Damage) (a : Nat) :
    (m.addDamage number damage).readByte a = m.readByte a := by
  unfold Memory.addDamage
  induction damage generalizing m with
  | nil => rfl
  | cons p t ih =>
    rw [List.foldl_cons, ih]
    split
    · exact readByte_setError _ _ _ _
    · rfl

end Sys2Proof.Laws.Memory
end

