-- ==== Sys2Proof/Laws/State.lean ====
section
/-! SUPPORT. Every named update of the state, field by field: what each field holds after it. -/

namespace Sys2Proof.Laws.State

open Sys2Proof Sys2Proof.Machine

/-! ### setLine -/

section

variable (s : State) (i : Fin 64) (l : Line)

@[simp] theorem setLine_pending : (s.setLine i l).pending = s.pending := rfl
@[simp] theorem setLine_resetPin : (s.setLine i l).resetPin = s.resetPin := rfl
@[simp] theorem setLine_device : (s.setLine i l).device = s.device := rfl
@[simp] theorem setLine_setup : (s.setLine i l).setup = s.setup := rfl
@[simp] theorem setLine_preserved : (s.setLine i l).preserved = s.preserved := rfl
@[simp] theorem setLine_restart : (s.setLine i l).restart = s.restart := rfl
@[simp] theorem setLine_pass : (s.setLine i l).pass = s.pass := rfl
@[simp] theorem setLine_now : (s.setLine i l).now = s.now := rfl
@[simp] theorem setLine_tickInProgress : (s.setLine i l).tickInProgress = s.tickInProgress := rfl
@[simp] theorem setLine_rules : (s.setLine i l).rules = s.rules := rfl
@[simp] theorem setLine_stage : (s.setLine i l).stage = s.stage := rfl
@[simp] theorem setLine_transfer : (s.setLine i l).transfer = s.transfer := rfl
@[simp] theorem setLine_ingress : (s.setLine i l).ingress = s.ingress := rfl
@[simp] theorem setLine_egress : (s.setLine i l).egress = s.egress := rfl
@[simp] theorem setLine_ports : (s.setLine i l).ports = s.ports := rfl
@[simp] theorem setLine_cellsInside : (s.setLine i l).cellsInside = s.cellsInside := rfl
@[simp] theorem setLine_egressOut : (s.setLine i l).egressOut = s.egressOut := rfl
@[simp] theorem setLine_lines : (s.setLine i l).lines = s.lines.set i.val l i.isLt := rfl
@[simp] theorem setLine_hand : (s.setLine i l).hand = s.hand := rfl
@[simp] theorem setLine_missTable : (s.setLine i l).missTable = s.missTable := rfl
@[simp] theorem setLine_occupancy : (s.setLine i l).occupancy = s.occupancy := rfl
@[simp] theorem setLine_hold : (s.setLine i l).hold = s.hold := rfl
@[simp] theorem setLine_cacheQ : (s.setLine i l).cacheQ = s.cacheQ := rfl
@[simp] theorem setLine_sweepReq : (s.setLine i l).sweepReq = s.sweepReq := rfl
@[simp] theorem setLine_inFlight : (s.setLine i l).inFlight = s.inFlight := rfl
@[simp] theorem setLine_owedCount : (s.setLine i l).owedCount = s.owedCount := rfl
@[simp] theorem setLine_stats : (s.setLine i l).stats = s.stats := rfl
@[simp] theorem setLine_sweepPos : (s.setLine i l).sweepPos = s.sweepPos := rfl
@[simp] theorem setLine_interval : (s.setLine i l).interval = s.interval := rfl
@[simp] theorem setLine_remembered : (s.setLine i l).remembered = s.remembered := rfl
@[simp] theorem setLine_notices : (s.setLine i l).notices = s.notices := rfl
@[simp] theorem setLine_engine : (s.setLine i l).engine = s.engine := rfl
@[simp] theorem setLine_cmdQueue : (s.setLine i l).cmdQueue = s.cmdQueue := rfl
@[simp] theorem setLine_responses : (s.setLine i l).responses = s.responses := rfl
@[simp] theorem setLine_lastAcceptance : (s.setLine i l).lastAcceptance = s.lastAcceptance := rfl
@[simp] theorem setLine_linkWaits : (s.setLine i l).linkWaits = s.linkWaits := rfl
@[simp] theorem setLine_linkOut : (s.setLine i l).linkOut = s.linkOut := rfl
@[simp] theorem setLine_responsesAtEnd : (s.setLine i l).responsesAtEnd = s.responsesAtEnd := rfl
@[simp] theorem setLine_noticesAtEnd : (s.setLine i l).noticesAtEnd = s.noticesAtEnd := rfl
@[simp] theorem setLine_memory : (s.setLine i l).memory = s.memory := rfl
@[simp] theorem setLine_freeIndex : (s.setLine i l).freeIndex = s.freeIndex := rfl

end

/-! ### discardCell -/

section

variable (s : State) (x : Discard)

@[simp] theorem discardCell_pending : (discardCell s x).pending = s.pending := rfl
@[simp] theorem discardCell_resetPin : (discardCell s x).resetPin = s.resetPin := rfl
@[simp] theorem discardCell_device : (discardCell s x).device = s.device := rfl
@[simp] theorem discardCell_setup : (discardCell s x).setup = s.setup := rfl
@[simp] theorem discardCell_preserved : (discardCell s x).preserved = s.preserved := rfl
@[simp] theorem discardCell_restart : (discardCell s x).restart = s.restart := rfl
@[simp] theorem discardCell_pass : (discardCell s x).pass = s.pass := rfl
@[simp] theorem discardCell_now : (discardCell s x).now = s.now := rfl
@[simp] theorem discardCell_tickInProgress : (discardCell s x).tickInProgress = s.tickInProgress := rfl
@[simp] theorem discardCell_rules : (discardCell s x).rules = s.rules := rfl
@[simp] theorem discardCell_stage : (discardCell s x).stage = s.stage := rfl
@[simp] theorem discardCell_transfer : (discardCell s x).transfer = s.transfer := rfl
@[simp] theorem discardCell_ingress : (discardCell s x).ingress = s.ingress := rfl
@[simp] theorem discardCell_egress : (discardCell s x).egress = s.egress := rfl
@[simp] theorem discardCell_ports : (discardCell s x).ports = s.ports.bump x := rfl
@[simp] theorem discardCell_cellsInside : (discardCell s x).cellsInside = s.cellsInside - 1 := rfl
@[simp] theorem discardCell_egressOut : (discardCell s x).egressOut = s.egressOut := rfl
@[simp] theorem discardCell_lines : (discardCell s x).lines = s.lines := rfl
@[simp] theorem discardCell_hand : (discardCell s x).hand = s.hand := rfl
@[simp] theorem discardCell_missTable : (discardCell s x).missTable = s.missTable := rfl
@[simp] theorem discardCell_occupancy : (discardCell s x).occupancy = s.occupancy := rfl
@[simp] theorem discardCell_hold : (discardCell s x).hold = s.hold := rfl
@[simp] theorem discardCell_cacheQ : (discardCell s x).cacheQ = s.cacheQ := rfl
@[simp] theorem discardCell_sweepReq : (discardCell s x).sweepReq = s.sweepReq := rfl
@[simp] theorem discardCell_inFlight : (discardCell s x).inFlight = s.inFlight := rfl
@[simp] theorem discardCell_owedCount : (discardCell s x).owedCount = s.owedCount := rfl
@[simp] theorem discardCell_stats : (discardCell s x).stats = s.stats := rfl
@[simp] theorem discardCell_sweepPos : (discardCell s x).sweepPos = s.sweepPos := rfl
@[simp] theorem discardCell_interval : (discardCell s x).interval = s.interval := rfl
@[simp] theorem discardCell_remembered : (discardCell s x).remembered = s.remembered := rfl
@[simp] theorem discardCell_notices : (discardCell s x).notices = s.notices := rfl
@[simp] theorem discardCell_engine : (discardCell s x).engine = s.engine := rfl
@[simp] theorem discardCell_cmdQueue : (discardCell s x).cmdQueue = s.cmdQueue := rfl
@[simp] theorem discardCell_responses : (discardCell s x).responses = s.responses := rfl
@[simp] theorem discardCell_lastAcceptance : (discardCell s x).lastAcceptance = s.lastAcceptance := rfl
@[simp] theorem discardCell_linkWaits : (discardCell s x).linkWaits = s.linkWaits := rfl
@[simp] theorem discardCell_linkOut : (discardCell s x).linkOut = s.linkOut := rfl
@[simp] theorem discardCell_responsesAtEnd : (discardCell s x).responsesAtEnd = s.responsesAtEnd := rfl
@[simp] theorem discardCell_noticesAtEnd : (discardCell s x).noticesAtEnd = s.noticesAtEnd := rfl
@[simp] theorem discardCell_memory : (discardCell s x).memory = s.memory := rfl
@[simp] theorem discardCell_freeIndex : (discardCell s x).freeIndex = s.freeIndex := rfl

end

/-! ### fillPlace -/

section

variable (s : State) (c : Cell) (d : Disposition)

@[simp] theorem fillPlace_pending : (fillPlace s c d).pending = s.pending := rfl
@[simp] theorem fillPlace_resetPin : (fillPlace s c d).resetPin = s.resetPin := rfl
@[simp] theorem fillPlace_device : (fillPlace s c d).device = s.device := rfl
@[simp] theorem fillPlace_setup : (fillPlace s c d).setup = s.setup := rfl
@[simp] theorem fillPlace_preserved : (fillPlace s c d).preserved = s.preserved := rfl
@[simp] theorem fillPlace_restart : (fillPlace s c d).restart = s.restart := rfl
@[simp] theorem fillPlace_pass : (fillPlace s c d).pass = s.pass := rfl
@[simp] theorem fillPlace_now : (fillPlace s c d).now = s.now := rfl
@[simp] theorem fillPlace_tickInProgress : (fillPlace s c d).tickInProgress = s.tickInProgress := rfl
@[simp] theorem fillPlace_rules : (fillPlace s c d).rules = s.rules := rfl
@[simp] theorem fillPlace_stage : (fillPlace s c d).stage = s.stage := rfl
@[simp] theorem fillPlace_transfer : (fillPlace s c d).transfer = s.transfer := rfl
@[simp] theorem fillPlace_ingress : (fillPlace s c d).ingress = s.ingress := rfl
@[simp] theorem fillPlace_egress : (fillPlace s c d).egress = s.egress ++ [⟨c, d⟩] := rfl
@[simp] theorem fillPlace_ports : (fillPlace s c d).ports = s.ports := rfl
@[simp] theorem fillPlace_cellsInside : (fillPlace s c d).cellsInside = s.cellsInside := rfl
@[simp] theorem fillPlace_egressOut : (fillPlace s c d).egressOut = s.egressOut := rfl
@[simp] theorem fillPlace_lines : (fillPlace s c d).lines = s.lines := rfl
@[simp] theorem fillPlace_hand : (fillPlace s c d).hand = s.hand := rfl
@[simp] theorem fillPlace_missTable : (fillPlace s c d).missTable = s.missTable := rfl
@[simp] theorem fillPlace_occupancy : (fillPlace s c d).occupancy = s.occupancy := rfl
@[simp] theorem fillPlace_hold : (fillPlace s c d).hold = s.hold := rfl
@[simp] theorem fillPlace_cacheQ : (fillPlace s c d).cacheQ = s.cacheQ := rfl
@[simp] theorem fillPlace_sweepReq : (fillPlace s c d).sweepReq = s.sweepReq := rfl
@[simp] theorem fillPlace_inFlight : (fillPlace s c d).inFlight = s.inFlight := rfl
@[simp] theorem fillPlace_owedCount : (fillPlace s c d).owedCount = s.owedCount := rfl
@[simp] theorem fillPlace_stats : (fillPlace s c d).stats = s.stats := rfl
@[simp] theorem fillPlace_sweepPos : (fillPlace s c d).sweepPos = s.sweepPos := rfl
@[simp] theorem fillPlace_interval : (fillPlace s c d).interval = s.interval := rfl
@[simp] theorem fillPlace_remembered : (fillPlace s c d).remembered = s.remembered := rfl
@[simp] theorem fillPlace_notices : (fillPlace s c d).notices = s.notices := rfl
@[simp] theorem fillPlace_engine : (fillPlace s c d).engine = s.engine := rfl
@[simp] theorem fillPlace_cmdQueue : (fillPlace s c d).cmdQueue = s.cmdQueue := rfl
@[simp] theorem fillPlace_responses : (fillPlace s c d).responses = s.responses := rfl
@[simp] theorem fillPlace_lastAcceptance : (fillPlace s c d).lastAcceptance = s.lastAcceptance := rfl
@[simp] theorem fillPlace_linkWaits : (fillPlace s c d).linkWaits = s.linkWaits := rfl
@[simp] theorem fillPlace_linkOut : (fillPlace s c d).linkOut = s.linkOut := rfl
@[simp] theorem fillPlace_responsesAtEnd : (fillPlace s c d).responsesAtEnd = s.responsesAtEnd := rfl
@[simp] theorem fillPlace_noticesAtEnd : (fillPlace s c d).noticesAtEnd = s.noticesAtEnd := rfl
@[simp] theorem fillPlace_memory : (fillPlace s c d).memory = s.memory := rfl
@[simp] theorem fillPlace_freeIndex : (fillPlace s c d).freeIndex = s.freeIndex := rfl

end

/-! ### pushNotice -/

section

variable (s : State) (n : Notice)

@[simp] theorem pushNotice_pending : (pushNotice s n).pending = s.pending := rfl
@[simp] theorem pushNotice_resetPin : (pushNotice s n).resetPin = s.resetPin := rfl
@[simp] theorem pushNotice_device : (pushNotice s n).device = s.device := rfl
@[simp] theorem pushNotice_setup : (pushNotice s n).setup = s.setup := rfl
@[simp] theorem pushNotice_preserved : (pushNotice s n).preserved = s.preserved := rfl
@[simp] theorem pushNotice_restart : (pushNotice s n).restart = s.restart := rfl
@[simp] theorem pushNotice_pass : (pushNotice s n).pass = s.pass := rfl
@[simp] theorem pushNotice_now : (pushNotice s n).now = s.now := rfl
@[simp] theorem pushNotice_tickInProgress : (pushNotice s n).tickInProgress = s.tickInProgress := rfl
@[simp] theorem pushNotice_rules : (pushNotice s n).rules = s.rules := rfl
@[simp] theorem pushNotice_stage : (pushNotice s n).stage = s.stage := rfl
@[simp] theorem pushNotice_transfer : (pushNotice s n).transfer = s.transfer := rfl
@[simp] theorem pushNotice_ingress : (pushNotice s n).ingress = s.ingress := rfl
@[simp] theorem pushNotice_egress : (pushNotice s n).egress = s.egress := rfl
@[simp] theorem pushNotice_ports : (pushNotice s n).ports = s.ports := rfl
@[simp] theorem pushNotice_cellsInside : (pushNotice s n).cellsInside = s.cellsInside := rfl
@[simp] theorem pushNotice_egressOut : (pushNotice s n).egressOut = s.egressOut := rfl
@[simp] theorem pushNotice_lines : (pushNotice s n).lines = s.lines := rfl
@[simp] theorem pushNotice_hand : (pushNotice s n).hand = s.hand := rfl
@[simp] theorem pushNotice_missTable : (pushNotice s n).missTable = s.missTable := rfl
@[simp] theorem pushNotice_occupancy : (pushNotice s n).occupancy = s.occupancy := rfl
@[simp] theorem pushNotice_hold : (pushNotice s n).hold = s.hold := rfl
@[simp] theorem pushNotice_cacheQ : (pushNotice s n).cacheQ = s.cacheQ := rfl
@[simp] theorem pushNotice_sweepReq : (pushNotice s n).sweepReq = s.sweepReq := rfl
@[simp] theorem pushNotice_inFlight : (pushNotice s n).inFlight = s.inFlight := rfl
@[simp] theorem pushNotice_owedCount : (pushNotice s n).owedCount = s.owedCount := rfl
@[simp] theorem pushNotice_stats : (pushNotice s n).stats = s.stats := rfl
@[simp] theorem pushNotice_sweepPos : (pushNotice s n).sweepPos = s.sweepPos := rfl
@[simp] theorem pushNotice_interval : (pushNotice s n).interval = s.interval := rfl
@[simp] theorem pushNotice_remembered : (pushNotice s n).remembered = s.remembered := rfl
@[simp] theorem pushNotice_notices : (pushNotice s n).notices = s.notices ++ [n] := rfl
@[simp] theorem pushNotice_engine : (pushNotice s n).engine = s.engine := rfl
@[simp] theorem pushNotice_cmdQueue : (pushNotice s n).cmdQueue = s.cmdQueue := rfl
@[simp] theorem pushNotice_responses : (pushNotice s n).responses = s.responses := rfl
@[simp] theorem pushNotice_lastAcceptance : (pushNotice s n).lastAcceptance = s.lastAcceptance := rfl
@[simp] theorem pushNotice_linkWaits : (pushNotice s n).linkWaits = s.linkWaits := rfl
@[simp] theorem pushNotice_linkOut : (pushNotice s n).linkOut = s.linkOut := rfl
@[simp] theorem pushNotice_responsesAtEnd : (pushNotice s n).responsesAtEnd = s.responsesAtEnd := rfl
@[simp] theorem pushNotice_noticesAtEnd : (pushNotice s n).noticesAtEnd = s.noticesAtEnd := rfl
@[simp] theorem pushNotice_memory : (pushNotice s n).memory = s.memory := rfl
@[simp] theorem pushNotice_freeIndex : (pushNotice s n).freeIndex = s.freeIndex := rfl

end

/-! ### countHit -/

section

variable (s : State)

@[simp] theorem countHit_pending : (countHit s).pending = s.pending := rfl
@[simp] theorem countHit_resetPin : (countHit s).resetPin = s.resetPin := rfl
@[simp] theorem countHit_device : (countHit s).device = s.device := rfl
@[simp] theorem countHit_setup : (countHit s).setup = s.setup := rfl
@[simp] theorem countHit_preserved : (countHit s).preserved = s.preserved := rfl
@[simp] theorem countHit_restart : (countHit s).restart = s.restart := rfl
@[simp] theorem countHit_pass : (countHit s).pass = s.pass := rfl
@[simp] theorem countHit_now : (countHit s).now = s.now := rfl
@[simp] theorem countHit_tickInProgress : (countHit s).tickInProgress = s.tickInProgress := rfl
@[simp] theorem countHit_rules : (countHit s).rules = s.rules := rfl
@[simp] theorem countHit_stage : (countHit s).stage = s.stage := rfl
@[simp] theorem countHit_transfer : (countHit s).transfer = s.transfer := rfl
@[simp] theorem countHit_ingress : (countHit s).ingress = s.ingress := rfl
@[simp] theorem countHit_egress : (countHit s).egress = s.egress := rfl
@[simp] theorem countHit_ports : (countHit s).ports = s.ports := rfl
@[simp] theorem countHit_cellsInside : (countHit s).cellsInside = s.cellsInside := rfl
@[simp] theorem countHit_egressOut : (countHit s).egressOut = s.egressOut := rfl
@[simp] theorem countHit_lines : (countHit s).lines = s.lines := rfl
@[simp] theorem countHit_hand : (countHit s).hand = s.hand := rfl
@[simp] theorem countHit_missTable : (countHit s).missTable = s.missTable := rfl
@[simp] theorem countHit_occupancy : (countHit s).occupancy = s.occupancy := rfl
@[simp] theorem countHit_hold : (countHit s).hold = s.hold := rfl
@[simp] theorem countHit_cacheQ : (countHit s).cacheQ = s.cacheQ := rfl
@[simp] theorem countHit_sweepReq : (countHit s).sweepReq = s.sweepReq := rfl
@[simp] theorem countHit_inFlight : (countHit s).inFlight = s.inFlight := rfl
@[simp] theorem countHit_owedCount : (countHit s).owedCount = s.owedCount := rfl
@[simp] theorem countHit_stats : (countHit s).stats = { s.stats with hits := s.stats.hits + 1 } := rfl
@[simp] theorem countHit_sweepPos : (countHit s).sweepPos = s.sweepPos := rfl
@[simp] theorem countHit_interval : (countHit s).interval = s.interval := rfl
@[simp] theorem countHit_remembered : (countHit s).remembered = s.remembered := rfl
@[simp] theorem countHit_notices : (countHit s).notices = s.notices := rfl
@[simp] theorem countHit_engine : (countHit s).engine = s.engine := rfl
@[simp] theorem countHit_cmdQueue : (countHit s).cmdQueue = s.cmdQueue := rfl
@[simp] theorem countHit_responses : (countHit s).responses = s.responses := rfl
@[simp] theorem countHit_lastAcceptance : (countHit s).lastAcceptance = s.lastAcceptance := rfl
@[simp] theorem countHit_linkWaits : (countHit s).linkWaits = s.linkWaits := rfl
@[simp] theorem countHit_linkOut : (countHit s).linkOut = s.linkOut := rfl
@[simp] theorem countHit_responsesAtEnd : (countHit s).responsesAtEnd = s.responsesAtEnd := rfl
@[simp] theorem countHit_noticesAtEnd : (countHit s).noticesAtEnd = s.noticesAtEnd := rfl
@[simp] theorem countHit_memory : (countHit s).memory = s.memory := rfl
@[simp] theorem countHit_freeIndex : (countHit s).freeIndex = s.freeIndex := rfl

end

/-! ### countEmptied -/

section

variable (s : State) (r : Record)

@[simp] theorem countEmptied_pending : (countEmptied s r).pending = s.pending := rfl
@[simp] theorem countEmptied_resetPin : (countEmptied s r).resetPin = s.resetPin := rfl
@[simp] theorem countEmptied_device : (countEmptied s r).device = s.device := rfl
@[simp] theorem countEmptied_setup : (countEmptied s r).setup = s.setup := rfl
@[simp] theorem countEmptied_preserved : (countEmptied s r).preserved = s.preserved := rfl
@[simp] theorem countEmptied_restart : (countEmptied s r).restart = s.restart := rfl
@[simp] theorem countEmptied_pass : (countEmptied s r).pass = s.pass := rfl
@[simp] theorem countEmptied_now : (countEmptied s r).now = s.now := rfl
@[simp] theorem countEmptied_tickInProgress : (countEmptied s r).tickInProgress = s.tickInProgress := rfl
@[simp] theorem countEmptied_rules : (countEmptied s r).rules = s.rules := rfl
@[simp] theorem countEmptied_stage : (countEmptied s r).stage = s.stage := rfl
@[simp] theorem countEmptied_transfer : (countEmptied s r).transfer = s.transfer := rfl
@[simp] theorem countEmptied_ingress : (countEmptied s r).ingress = s.ingress := rfl
@[simp] theorem countEmptied_egress : (countEmptied s r).egress = s.egress := rfl
@[simp] theorem countEmptied_ports : (countEmptied s r).ports = s.ports := rfl
@[simp] theorem countEmptied_cellsInside : (countEmptied s r).cellsInside = s.cellsInside := rfl
@[simp] theorem countEmptied_egressOut : (countEmptied s r).egressOut = s.egressOut := rfl
@[simp] theorem countEmptied_lines : (countEmptied s r).lines = s.lines := rfl
@[simp] theorem countEmptied_hand : (countEmptied s r).hand = s.hand := rfl
@[simp] theorem countEmptied_missTable : (countEmptied s r).missTable = s.missTable := rfl
@[simp] theorem countEmptied_occupancy : (countEmptied s r).occupancy = s.occupancy := rfl
@[simp] theorem countEmptied_hold : (countEmptied s r).hold = s.hold := rfl
@[simp] theorem countEmptied_cacheQ : (countEmptied s r).cacheQ = s.cacheQ := rfl
@[simp] theorem countEmptied_sweepReq : (countEmptied s r).sweepReq = s.sweepReq := rfl
@[simp] theorem countEmptied_inFlight : (countEmptied s r).inFlight = s.inFlight := rfl
@[simp] theorem countEmptied_owedCount :
    (countEmptied s r).owedCount = if r.owed.isEmpty then s.owedCount else s.owedCount - 1 := rfl
@[simp] theorem countEmptied_stats : (countEmptied s r).stats = s.stats := rfl
@[simp] theorem countEmptied_sweepPos : (countEmptied s r).sweepPos = s.sweepPos := rfl
@[simp] theorem countEmptied_interval : (countEmptied s r).interval = s.interval := rfl
@[simp] theorem countEmptied_remembered : (countEmptied s r).remembered = s.remembered := rfl
@[simp] theorem countEmptied_notices : (countEmptied s r).notices = s.notices := rfl
@[simp] theorem countEmptied_engine : (countEmptied s r).engine = s.engine := rfl
@[simp] theorem countEmptied_cmdQueue : (countEmptied s r).cmdQueue = s.cmdQueue := rfl
@[simp] theorem countEmptied_responses : (countEmptied s r).responses = s.responses := rfl
@[simp] theorem countEmptied_lastAcceptance : (countEmptied s r).lastAcceptance = s.lastAcceptance := rfl
@[simp] theorem countEmptied_linkWaits : (countEmptied s r).linkWaits = s.linkWaits := rfl
@[simp] theorem countEmptied_linkOut : (countEmptied s r).linkOut = s.linkOut := rfl
@[simp] theorem countEmptied_responsesAtEnd : (countEmptied s r).responsesAtEnd = s.responsesAtEnd := rfl
@[simp] theorem countEmptied_noticesAtEnd : (countEmptied s r).noticesAtEnd = s.noticesAtEnd := rfl
@[simp] theorem countEmptied_memory : (countEmptied s r).memory = s.memory := rfl
@[simp] theorem countEmptied_freeIndex : (countEmptied s r).freeIndex = s.freeIndex := rfl

end

/-! ### endAdmission -/

section

variable (s : State) (n : Nat) (r : Record)

@[simp] theorem endAdmission_pending : (endAdmission s n r).pending = s.pending := rfl
@[simp] theorem endAdmission_resetPin : (endAdmission s n r).resetPin = s.resetPin := rfl
@[simp] theorem endAdmission_device : (endAdmission s n r).device = s.device := rfl
@[simp] theorem endAdmission_setup : (endAdmission s n r).setup = s.setup := rfl
@[simp] theorem endAdmission_preserved : (endAdmission s n r).preserved = s.preserved := rfl
@[simp] theorem endAdmission_restart : (endAdmission s n r).restart = s.restart := rfl
@[simp] theorem endAdmission_pass : (endAdmission s n r).pass = s.pass := rfl
@[simp] theorem endAdmission_now : (endAdmission s n r).now = s.now := rfl
@[simp] theorem endAdmission_tickInProgress : (endAdmission s n r).tickInProgress = s.tickInProgress := rfl
@[simp] theorem endAdmission_rules : (endAdmission s n r).rules = s.rules := rfl
@[simp] theorem endAdmission_stage : (endAdmission s n r).stage = s.stage := rfl
@[simp] theorem endAdmission_transfer : (endAdmission s n r).transfer = s.transfer := rfl
@[simp] theorem endAdmission_ingress : (endAdmission s n r).ingress = s.ingress := rfl
@[simp] theorem endAdmission_egress : (endAdmission s n r).egress = s.egress := rfl
@[simp] theorem endAdmission_ports : (endAdmission s n r).ports = s.ports := rfl
@[simp] theorem endAdmission_cellsInside : (endAdmission s n r).cellsInside = s.cellsInside := rfl
@[simp] theorem endAdmission_egressOut : (endAdmission s n r).egressOut = s.egressOut := rfl
@[simp] theorem endAdmission_lines : (endAdmission s n r).lines = s.lines := rfl
@[simp] theorem endAdmission_hand : (endAdmission s n r).hand = s.hand := rfl
@[simp] theorem endAdmission_missTable : (endAdmission s n r).missTable = s.missTable := rfl
@[simp] theorem endAdmission_occupancy : (endAdmission s n r).occupancy = occClear s.occupancy n := rfl
@[simp] theorem endAdmission_hold : (endAdmission s n r).hold = s.hold := rfl
@[simp] theorem endAdmission_cacheQ : (endAdmission s n r).cacheQ = s.cacheQ := rfl
@[simp] theorem endAdmission_sweepReq : (endAdmission s n r).sweepReq = s.sweepReq := rfl
@[simp] theorem endAdmission_inFlight : (endAdmission s n r).inFlight = s.inFlight := rfl
@[simp] theorem endAdmission_owedCount :
    (endAdmission s n r).owedCount = if r.owed.isEmpty then s.owedCount else s.owedCount - 1 := rfl
@[simp] theorem endAdmission_stats : (endAdmission s n r).stats = s.stats := rfl
@[simp] theorem endAdmission_sweepPos : (endAdmission s n r).sweepPos = s.sweepPos := rfl
@[simp] theorem endAdmission_interval : (endAdmission s n r).interval = s.interval := rfl
@[simp] theorem endAdmission_remembered : (endAdmission s n r).remembered = s.remembered := rfl
@[simp] theorem endAdmission_notices : (endAdmission s n r).notices = s.notices := rfl
@[simp] theorem endAdmission_engine : (endAdmission s n r).engine = s.engine := rfl
@[simp] theorem endAdmission_cmdQueue : (endAdmission s n r).cmdQueue = s.cmdQueue := rfl
@[simp] theorem endAdmission_responses : (endAdmission s n r).responses = s.responses := rfl
@[simp] theorem endAdmission_lastAcceptance : (endAdmission s n r).lastAcceptance = s.lastAcceptance := rfl
@[simp] theorem endAdmission_linkWaits : (endAdmission s n r).linkWaits = s.linkWaits := rfl
@[simp] theorem endAdmission_linkOut : (endAdmission s n r).linkOut = s.linkOut := rfl
@[simp] theorem endAdmission_responsesAtEnd : (endAdmission s n r).responsesAtEnd = s.responsesAtEnd := rfl
@[simp] theorem endAdmission_noticesAtEnd : (endAdmission s n r).noticesAtEnd = s.noticesAtEnd := rfl
@[simp] theorem endAdmission_memory : (endAdmission s n r).memory = s.memory := rfl
@[simp] theorem endAdmission_freeIndex : (endAdmission s n r).freeIndex = s.freeIndex := rfl

end

/-! ### requestCache -/

section

variable (s : State) (q : List CacheReq)

@[simp] theorem requestCache_pending : (requestCache s q).pending = s.pending := rfl
@[simp] theorem requestCache_resetPin : (requestCache s q).resetPin = s.resetPin := rfl
@[simp] theorem requestCache_device : (requestCache s q).device = s.device := rfl
@[simp] theorem requestCache_setup : (requestCache s q).setup = s.setup := rfl
@[simp] theorem requestCache_preserved : (requestCache s q).preserved = s.preserved := rfl
@[simp] theorem requestCache_restart : (requestCache s q).restart = s.restart := rfl
@[simp] theorem requestCache_pass : (requestCache s q).pass = s.pass := rfl
@[simp] theorem requestCache_now : (requestCache s q).now = s.now := rfl
@[simp] theorem requestCache_tickInProgress : (requestCache s q).tickInProgress = s.tickInProgress := rfl
@[simp] theorem requestCache_rules : (requestCache s q).rules = s.rules := rfl
@[simp] theorem requestCache_stage : (requestCache s q).stage = s.stage := rfl
@[simp] theorem requestCache_transfer : (requestCache s q).transfer = s.transfer := rfl
@[simp] theorem requestCache_ingress : (requestCache s q).ingress = s.ingress := rfl
@[simp] theorem requestCache_egress : (requestCache s q).egress = s.egress := rfl
@[simp] theorem requestCache_ports : (requestCache s q).ports = s.ports := rfl
@[simp] theorem requestCache_cellsInside : (requestCache s q).cellsInside = s.cellsInside := rfl
@[simp] theorem requestCache_egressOut : (requestCache s q).egressOut = s.egressOut := rfl
@[simp] theorem requestCache_lines : (requestCache s q).lines = s.lines := rfl
@[simp] theorem requestCache_hand : (requestCache s q).hand = s.hand := rfl
@[simp] theorem requestCache_missTable : (requestCache s q).missTable = s.missTable := rfl
@[simp] theorem requestCache_occupancy : (requestCache s q).occupancy = s.occupancy := rfl
@[simp] theorem requestCache_hold : (requestCache s q).hold = s.hold := rfl
@[simp] theorem requestCache_cacheQ : (requestCache s q).cacheQ = s.cacheQ ++ q := rfl
@[simp] theorem requestCache_sweepReq : (requestCache s q).sweepReq = s.sweepReq := rfl
@[simp] theorem requestCache_inFlight : (requestCache s q).inFlight = s.inFlight := rfl
@[simp] theorem requestCache_owedCount : (requestCache s q).owedCount = s.owedCount := rfl
@[simp] theorem requestCache_stats : (requestCache s q).stats = s.stats := rfl
@[simp] theorem requestCache_sweepPos : (requestCache s q).sweepPos = s.sweepPos := rfl
@[simp] theorem requestCache_interval : (requestCache s q).interval = s.interval := rfl
@[simp] theorem requestCache_remembered : (requestCache s q).remembered = s.remembered := rfl
@[simp] theorem requestCache_notices : (requestCache s q).notices = s.notices := rfl
@[simp] theorem requestCache_engine : (requestCache s q).engine = s.engine := rfl
@[simp] theorem requestCache_cmdQueue : (requestCache s q).cmdQueue = s.cmdQueue := rfl
@[simp] theorem requestCache_responses : (requestCache s q).responses = s.responses := rfl
@[simp] theorem requestCache_lastAcceptance : (requestCache s q).lastAcceptance = s.lastAcceptance := rfl
@[simp] theorem requestCache_linkWaits : (requestCache s q).linkWaits = s.linkWaits := rfl
@[simp] theorem requestCache_linkOut : (requestCache s q).linkOut = s.linkOut := rfl
@[simp] theorem requestCache_responsesAtEnd : (requestCache s q).responsesAtEnd = s.responsesAtEnd := rfl
@[simp] theorem requestCache_noticesAtEnd : (requestCache s q).noticesAtEnd = s.noticesAtEnd := rfl
@[simp] theorem requestCache_memory : (requestCache s q).memory = s.memory := rfl
@[simp] theorem requestCache_freeIndex : (requestCache s q).freeIndex = s.freeIndex := rfl

end

/-! ### writeImage -/

section

variable (s : State) (n : Nat) (r : Record)

@[simp] theorem writeImage_pending : (writeImage s n r).pending = s.pending := rfl
@[simp] theorem writeImage_resetPin : (writeImage s n r).resetPin = s.resetPin := rfl
@[simp] theorem writeImage_device : (writeImage s n r).device = s.device := rfl
@[simp] theorem writeImage_setup : (writeImage s n r).setup = s.setup := rfl
@[simp] theorem writeImage_preserved : (writeImage s n r).preserved = s.preserved := rfl
@[simp] theorem writeImage_restart : (writeImage s n r).restart = s.restart := rfl
@[simp] theorem writeImage_pass : (writeImage s n r).pass = s.pass := rfl
@[simp] theorem writeImage_now : (writeImage s n r).now = s.now := rfl
@[simp] theorem writeImage_tickInProgress : (writeImage s n r).tickInProgress = s.tickInProgress := rfl
@[simp] theorem writeImage_rules : (writeImage s n r).rules = s.rules := rfl
@[simp] theorem writeImage_stage : (writeImage s n r).stage = s.stage := rfl
@[simp] theorem writeImage_transfer : (writeImage s n r).transfer = s.transfer := rfl
@[simp] theorem writeImage_ingress : (writeImage s n r).ingress = s.ingress := rfl
@[simp] theorem writeImage_egress : (writeImage s n r).egress = s.egress := rfl
@[simp] theorem writeImage_ports : (writeImage s n r).ports = s.ports := rfl
@[simp] theorem writeImage_cellsInside : (writeImage s n r).cellsInside = s.cellsInside := rfl
@[simp] theorem writeImage_egressOut : (writeImage s n r).egressOut = s.egressOut := rfl
@[simp] theorem writeImage_lines : (writeImage s n r).lines = s.lines := rfl
@[simp] theorem writeImage_hand : (writeImage s n r).hand = s.hand := rfl
@[simp] theorem writeImage_missTable : (writeImage s n r).missTable = s.missTable := rfl
@[simp] theorem writeImage_occupancy : (writeImage s n r).occupancy = s.occupancy := rfl
@[simp] theorem writeImage_hold : (writeImage s n r).hold = s.hold := rfl
@[simp] theorem writeImage_cacheQ : (writeImage s n r).cacheQ = s.cacheQ := rfl
@[simp] theorem writeImage_sweepReq : (writeImage s n r).sweepReq = s.sweepReq := rfl
@[simp] theorem writeImage_inFlight : (writeImage s n r).inFlight = s.inFlight := rfl
@[simp] theorem writeImage_owedCount : (writeImage s n r).owedCount = s.owedCount := rfl
@[simp] theorem writeImage_stats : (writeImage s n r).stats = s.stats := rfl
@[simp] theorem writeImage_sweepPos : (writeImage s n r).sweepPos = s.sweepPos := rfl
@[simp] theorem writeImage_interval : (writeImage s n r).interval = s.interval := rfl
@[simp] theorem writeImage_remembered : (writeImage s n r).remembered = s.remembered := rfl
@[simp] theorem writeImage_notices : (writeImage s n r).notices = s.notices := rfl
@[simp] theorem writeImage_engine : (writeImage s n r).engine = s.engine := rfl
@[simp] theorem writeImage_cmdQueue : (writeImage s n r).cmdQueue = s.cmdQueue := rfl
@[simp] theorem writeImage_responses : (writeImage s n r).responses = s.responses := rfl
@[simp] theorem writeImage_lastAcceptance : (writeImage s n r).lastAcceptance = s.lastAcceptance := rfl
@[simp] theorem writeImage_linkWaits : (writeImage s n r).linkWaits = s.linkWaits := rfl
@[simp] theorem writeImage_linkOut : (writeImage s n r).linkOut = s.linkOut := rfl
@[simp] theorem writeImage_responsesAtEnd : (writeImage s n r).responsesAtEnd = s.responsesAtEnd := rfl
@[simp] theorem writeImage_noticesAtEnd : (writeImage s n r).noticesAtEnd = s.noticesAtEnd := rfl
@[simp] theorem writeImage_memory : (writeImage s n r).memory = s.memory.writeWords (16 * n) (encodeImage r) := rfl
@[simp] theorem writeImage_freeIndex : (writeImage s n r).freeIndex = s.freeIndex := rfl

end

/-! ### fly -/

section

variable (s : State) (t : Txn)

@[simp] theorem fly_pending : (fly s t).pending = s.pending := rfl
@[simp] theorem fly_resetPin : (fly s t).resetPin = s.resetPin := rfl
@[simp] theorem fly_device : (fly s t).device = s.device := rfl
@[simp] theorem fly_setup : (fly s t).setup = s.setup := rfl
@[simp] theorem fly_preserved : (fly s t).preserved = s.preserved := rfl
@[simp] theorem fly_restart : (fly s t).restart = s.restart := rfl
@[simp] theorem fly_pass : (fly s t).pass = s.pass := rfl
@[simp] theorem fly_now : (fly s t).now = s.now := rfl
@[simp] theorem fly_tickInProgress : (fly s t).tickInProgress = s.tickInProgress := rfl
@[simp] theorem fly_rules : (fly s t).rules = s.rules := rfl
@[simp] theorem fly_stage : (fly s t).stage = s.stage := rfl
@[simp] theorem fly_transfer : (fly s t).transfer = s.transfer := rfl
@[simp] theorem fly_ingress : (fly s t).ingress = s.ingress := rfl
@[simp] theorem fly_egress : (fly s t).egress = s.egress := rfl
@[simp] theorem fly_ports : (fly s t).ports = s.ports := rfl
@[simp] theorem fly_cellsInside : (fly s t).cellsInside = s.cellsInside := rfl
@[simp] theorem fly_egressOut : (fly s t).egressOut = s.egressOut := rfl
@[simp] theorem fly_lines : (fly s t).lines = s.lines := rfl
@[simp] theorem fly_hand : (fly s t).hand = s.hand := rfl
@[simp] theorem fly_missTable : (fly s t).missTable = s.missTable := rfl
@[simp] theorem fly_occupancy : (fly s t).occupancy = s.occupancy := rfl
@[simp] theorem fly_hold : (fly s t).hold = s.hold := rfl
@[simp] theorem fly_cacheQ : (fly s t).cacheQ = s.cacheQ := rfl
@[simp] theorem fly_sweepReq : (fly s t).sweepReq = s.sweepReq := rfl
@[simp] theorem fly_inFlight : (fly s t).inFlight = s.inFlight ++ [t] := rfl
@[simp] theorem fly_owedCount : (fly s t).owedCount = s.owedCount := rfl
@[simp] theorem fly_stats : (fly s t).stats = s.stats := rfl
@[simp] theorem fly_sweepPos : (fly s t).sweepPos = s.sweepPos := rfl
@[simp] theorem fly_interval : (fly s t).interval = s.interval := rfl
@[simp] theorem fly_remembered : (fly s t).remembered = s.remembered := rfl
@[simp] theorem fly_notices : (fly s t).notices = s.notices := rfl
@[simp] theorem fly_engine : (fly s t).engine = s.engine := rfl
@[simp] theorem fly_cmdQueue : (fly s t).cmdQueue = s.cmdQueue := rfl
@[simp] theorem fly_responses : (fly s t).responses = s.responses := rfl
@[simp] theorem fly_lastAcceptance : (fly s t).lastAcceptance = s.lastAcceptance := rfl
@[simp] theorem fly_linkWaits : (fly s t).linkWaits = s.linkWaits := rfl
@[simp] theorem fly_linkOut : (fly s t).linkOut = s.linkOut := rfl
@[simp] theorem fly_responsesAtEnd : (fly s t).responsesAtEnd = s.responsesAtEnd := rfl
@[simp] theorem fly_noticesAtEnd : (fly s t).noticesAtEnd = s.noticesAtEnd := rfl
@[simp] theorem fly_memory : (fly s t).memory = s.memory := rfl
@[simp] theorem fly_freeIndex : (fly s t).freeIndex = s.freeIndex := rfl

end

/-! ### countWriteBack -/

section

variable (s : State)

@[simp] theorem countWriteBack_pending : (countWriteBack s).pending = s.pending := rfl
@[simp] theorem countWriteBack_resetPin : (countWriteBack s).resetPin = s.resetPin := rfl
@[simp] theorem countWriteBack_device : (countWriteBack s).device = s.device := rfl
@[simp] theorem countWriteBack_setup : (countWriteBack s).setup = s.setup := rfl
@[simp] theorem countWriteBack_preserved : (countWriteBack s).preserved = s.preserved := rfl
@[simp] theorem countWriteBack_restart : (countWriteBack s).restart = s.restart := rfl
@[simp] theorem countWriteBack_pass : (countWriteBack s).pass = s.pass := rfl
@[simp] theorem countWriteBack_now : (countWriteBack s).now = s.now := rfl
@[simp] theorem countWriteBack_tickInProgress : (countWriteBack s).tickInProgress = s.tickInProgress := rfl
@[simp] theorem countWriteBack_rules : (countWriteBack s).rules = s.rules := rfl
@[simp] theorem countWriteBack_stage : (countWriteBack s).stage = s.stage := rfl
@[simp] theorem countWriteBack_transfer : (countWriteBack s).transfer = s.transfer := rfl
@[simp] theorem countWriteBack_ingress : (countWriteBack s).ingress = s.ingress := rfl
@[simp] theorem countWriteBack_egress : (countWriteBack s).egress = s.egress := rfl
@[simp] theorem countWriteBack_ports : (countWriteBack s).ports = s.ports := rfl
@[simp] theorem countWriteBack_cellsInside : (countWriteBack s).cellsInside = s.cellsInside := rfl
@[simp] theorem countWriteBack_egressOut : (countWriteBack s).egressOut = s.egressOut := rfl
@[simp] theorem countWriteBack_lines : (countWriteBack s).lines = s.lines := rfl
@[simp] theorem countWriteBack_hand : (countWriteBack s).hand = s.hand := rfl
@[simp] theorem countWriteBack_missTable : (countWriteBack s).missTable = s.missTable := rfl
@[simp] theorem countWriteBack_occupancy : (countWriteBack s).occupancy = s.occupancy := rfl
@[simp] theorem countWriteBack_hold : (countWriteBack s).hold = s.hold := rfl
@[simp] theorem countWriteBack_cacheQ : (countWriteBack s).cacheQ = s.cacheQ := rfl
@[simp] theorem countWriteBack_sweepReq : (countWriteBack s).sweepReq = s.sweepReq := rfl
@[simp] theorem countWriteBack_inFlight : (countWriteBack s).inFlight = s.inFlight := rfl
@[simp] theorem countWriteBack_owedCount : (countWriteBack s).owedCount = s.owedCount := rfl
@[simp] theorem countWriteBack_stats :
    (countWriteBack s).stats = { s.stats with dirtyWriteBacks := s.stats.dirtyWriteBacks + 1 } := rfl
@[simp] theorem countWriteBack_sweepPos : (countWriteBack s).sweepPos = s.sweepPos := rfl
@[simp] theorem countWriteBack_interval : (countWriteBack s).interval = s.interval := rfl
@[simp] theorem countWriteBack_remembered : (countWriteBack s).remembered = s.remembered := rfl
@[simp] theorem countWriteBack_notices : (countWriteBack s).notices = s.notices := rfl
@[simp] theorem countWriteBack_engine : (countWriteBack s).engine = s.engine := rfl
@[simp] theorem countWriteBack_cmdQueue : (countWriteBack s).cmdQueue = s.cmdQueue := rfl
@[simp] theorem countWriteBack_responses : (countWriteBack s).responses = s.responses := rfl
@[simp] theorem countWriteBack_lastAcceptance : (countWriteBack s).lastAcceptance = s.lastAcceptance := rfl
@[simp] theorem countWriteBack_linkWaits : (countWriteBack s).linkWaits = s.linkWaits := rfl
@[simp] theorem countWriteBack_linkOut : (countWriteBack s).linkOut = s.linkOut := rfl
@[simp] theorem countWriteBack_responsesAtEnd : (countWriteBack s).responsesAtEnd = s.responsesAtEnd := rfl
@[simp] theorem countWriteBack_noticesAtEnd : (countWriteBack s).noticesAtEnd = s.noticesAtEnd := rfl
@[simp] theorem countWriteBack_memory : (countWriteBack s).memory = s.memory := rfl
@[simp] theorem countWriteBack_freeIndex : (countWriteBack s).freeIndex = s.freeIndex := rfl

end

/-! ### emptyLines -/

section

variable (s : State) (k : Nat)

@[simp] theorem emptyLines_pending : (emptyLines s k).pending = s.pending := rfl
@[simp] theorem emptyLines_resetPin : (emptyLines s k).resetPin = s.resetPin := rfl
@[simp] theorem emptyLines_device : (emptyLines s k).device = s.device := rfl
@[simp] theorem emptyLines_setup : (emptyLines s k).setup = s.setup := rfl
@[simp] theorem emptyLines_preserved : (emptyLines s k).preserved = s.preserved := rfl
@[simp] theorem emptyLines_restart : (emptyLines s k).restart = .emptied k := rfl
@[simp] theorem emptyLines_pass : (emptyLines s k).pass = s.pass := rfl
@[simp] theorem emptyLines_now : (emptyLines s k).now = s.now := rfl
@[simp] theorem emptyLines_tickInProgress : (emptyLines s k).tickInProgress = s.tickInProgress := rfl
@[simp] theorem emptyLines_rules : (emptyLines s k).rules = s.rules := rfl
@[simp] theorem emptyLines_stage : (emptyLines s k).stage = s.stage := rfl
@[simp] theorem emptyLines_transfer : (emptyLines s k).transfer = s.transfer := rfl
@[simp] theorem emptyLines_ingress : (emptyLines s k).ingress = s.ingress := rfl
@[simp] theorem emptyLines_egress : (emptyLines s k).egress = s.egress := rfl
@[simp] theorem emptyLines_ports : (emptyLines s k).ports = s.ports := rfl
@[simp] theorem emptyLines_cellsInside : (emptyLines s k).cellsInside = s.cellsInside := rfl
@[simp] theorem emptyLines_egressOut : (emptyLines s k).egressOut = s.egressOut := rfl
@[simp] theorem emptyLines_lines : (emptyLines s k).lines = Vector.replicate 64 .empty := rfl
@[simp] theorem emptyLines_hand : (emptyLines s k).hand = s.hand := rfl
@[simp] theorem emptyLines_missTable : (emptyLines s k).missTable = s.missTable := rfl
@[simp] theorem emptyLines_occupancy : (emptyLines s k).occupancy = s.occupancy := rfl
@[simp] theorem emptyLines_hold : (emptyLines s k).hold = s.hold := rfl
@[simp] theorem emptyLines_cacheQ : (emptyLines s k).cacheQ = s.cacheQ := rfl
@[simp] theorem emptyLines_sweepReq : (emptyLines s k).sweepReq = s.sweepReq := rfl
@[simp] theorem emptyLines_inFlight : (emptyLines s k).inFlight = s.inFlight := rfl
@[simp] theorem emptyLines_owedCount : (emptyLines s k).owedCount = s.owedCount := rfl
@[simp] theorem emptyLines_stats : (emptyLines s k).stats = s.stats := rfl
@[simp] theorem emptyLines_sweepPos : (emptyLines s k).sweepPos = s.sweepPos := rfl
@[simp] theorem emptyLines_interval : (emptyLines s k).interval = s.interval := rfl
@[simp] theorem emptyLines_remembered : (emptyLines s k).remembered = s.remembered := rfl
@[simp] theorem emptyLines_notices : (emptyLines s k).notices = s.notices := rfl
@[simp] theorem emptyLines_engine : (emptyLines s k).engine = s.engine := rfl
@[simp] theorem emptyLines_cmdQueue : (emptyLines s k).cmdQueue = s.cmdQueue := rfl
@[simp] theorem emptyLines_responses : (emptyLines s k).responses = s.responses := rfl
@[simp] theorem emptyLines_lastAcceptance : (emptyLines s k).lastAcceptance = s.lastAcceptance := rfl
@[simp] theorem emptyLines_linkWaits : (emptyLines s k).linkWaits = s.linkWaits := rfl
@[simp] theorem emptyLines_linkOut : (emptyLines s k).linkOut = s.linkOut := rfl
@[simp] theorem emptyLines_responsesAtEnd : (emptyLines s k).responsesAtEnd = s.responsesAtEnd := rfl
@[simp] theorem emptyLines_noticesAtEnd : (emptyLines s k).noticesAtEnd = s.noticesAtEnd := rfl
@[simp] theorem emptyLines_memory : (emptyLines s k).memory = s.memory := rfl
@[simp] theorem emptyLines_freeIndex : (emptyLines s k).freeIndex = s.freeIndex := rfl

end

/-! ### endTick -/

section

variable (s : State)

@[simp] theorem endTick_pending : (endTick s).pending = s.pending := rfl
@[simp] theorem endTick_resetPin : (endTick s).resetPin = s.resetPin := rfl
@[simp] theorem endTick_device : (endTick s).device = s.device := rfl
@[simp] theorem endTick_setup : (endTick s).setup = s.setup := rfl
@[simp] theorem endTick_preserved : (endTick s).preserved = s.preserved := rfl
@[simp] theorem endTick_restart : (endTick s).restart = s.restart := rfl
@[simp] theorem endTick_pass : (endTick s).pass = s.pass := rfl
@[simp] theorem endTick_now : (endTick s).now = s.now + 1 := rfl
@[simp] theorem endTick_tickInProgress : (endTick s).tickInProgress = s.setup.tickPeriod := rfl
@[simp] theorem endTick_rules : (endTick s).rules = s.rules := rfl
@[simp] theorem endTick_stage : (endTick s).stage = s.stage := rfl
@[simp] theorem endTick_transfer : (endTick s).transfer = s.transfer := rfl
@[simp] theorem endTick_ingress : (endTick s).ingress = s.ingress := rfl
@[simp] theorem endTick_egress : (endTick s).egress = s.egress := rfl
@[simp] theorem endTick_ports : (endTick s).ports = s.ports := rfl
@[simp] theorem endTick_cellsInside : (endTick s).cellsInside = s.cellsInside := rfl
@[simp] theorem endTick_egressOut : (endTick s).egressOut = s.egressOut := rfl
@[simp] theorem endTick_lines : (endTick s).lines = s.lines := rfl
@[simp] theorem endTick_hand : (endTick s).hand = s.hand := rfl
@[simp] theorem endTick_missTable : (endTick s).missTable = s.missTable := rfl
@[simp] theorem endTick_occupancy : (endTick s).occupancy = s.occupancy := rfl
@[simp] theorem endTick_hold : (endTick s).hold = s.hold := rfl
@[simp] theorem endTick_cacheQ : (endTick s).cacheQ = s.cacheQ := rfl
@[simp] theorem endTick_sweepReq : (endTick s).sweepReq = s.sweepReq := rfl
@[simp] theorem endTick_inFlight : (endTick s).inFlight = s.inFlight := rfl
@[simp] theorem endTick_owedCount : (endTick s).owedCount = s.owedCount := rfl
@[simp] theorem endTick_stats : (endTick s).stats = s.stats := rfl
@[simp] theorem endTick_sweepPos : (endTick s).sweepPos = s.sweepPos := rfl
@[simp] theorem endTick_interval :
    (endTick s).interval = if s.device = .running then s.interval + 1 else s.interval := rfl
@[simp] theorem endTick_remembered : (endTick s).remembered = s.remembered := rfl
@[simp] theorem endTick_notices : (endTick s).notices = s.notices := rfl
@[simp] theorem endTick_engine : (endTick s).engine = s.engine := rfl
@[simp] theorem endTick_cmdQueue : (endTick s).cmdQueue = s.cmdQueue := rfl
@[simp] theorem endTick_responses : (endTick s).responses = s.responses := rfl
@[simp] theorem endTick_lastAcceptance : (endTick s).lastAcceptance = s.lastAcceptance := rfl
@[simp] theorem endTick_linkWaits : (endTick s).linkWaits = s.linkWaits := rfl
@[simp] theorem endTick_linkOut : (endTick s).linkOut = s.linkOut := rfl
@[simp] theorem endTick_responsesAtEnd : (endTick s).responsesAtEnd = s.responsesAtEnd := rfl
@[simp] theorem endTick_noticesAtEnd : (endTick s).noticesAtEnd = s.noticesAtEnd := rfl
@[simp] theorem endTick_memory : (endTick s).memory = s.memory := rfl
@[simp] theorem endTick_freeIndex : (endTick s).freeIndex = s.freeIndex := rfl

end

/-! ### linkEnded -/

section

variable (s : State)

@[simp] theorem linkEnded_pending : (linkEnded s).pending = s.pending := rfl
@[simp] theorem linkEnded_resetPin : (linkEnded s).resetPin = s.resetPin := rfl
@[simp] theorem linkEnded_device : (linkEnded s).device = s.device := rfl
@[simp] theorem linkEnded_setup : (linkEnded s).setup = s.setup := rfl
@[simp] theorem linkEnded_preserved : (linkEnded s).preserved = s.preserved := rfl
@[simp] theorem linkEnded_restart : (linkEnded s).restart = s.restart := rfl
@[simp] theorem linkEnded_pass : (linkEnded s).pass = s.pass := rfl
@[simp] theorem linkEnded_now : (linkEnded s).now = s.now := rfl
@[simp] theorem linkEnded_tickInProgress : (linkEnded s).tickInProgress = s.tickInProgress := rfl
@[simp] theorem linkEnded_rules : (linkEnded s).rules = s.rules := rfl
@[simp] theorem linkEnded_stage : (linkEnded s).stage = s.stage := rfl
@[simp] theorem linkEnded_transfer : (linkEnded s).transfer = s.transfer := rfl
@[simp] theorem linkEnded_ingress : (linkEnded s).ingress = s.ingress := rfl
@[simp] theorem linkEnded_egress : (linkEnded s).egress = s.egress := rfl
@[simp] theorem linkEnded_ports : (linkEnded s).ports = s.ports := rfl
@[simp] theorem linkEnded_cellsInside : (linkEnded s).cellsInside = s.cellsInside := rfl
@[simp] theorem linkEnded_egressOut : (linkEnded s).egressOut = s.egressOut := rfl
@[simp] theorem linkEnded_lines : (linkEnded s).lines = s.lines := rfl
@[simp] theorem linkEnded_hand : (linkEnded s).hand = s.hand := rfl
@[simp] theorem linkEnded_missTable : (linkEnded s).missTable = s.missTable := rfl
@[simp] theorem linkEnded_occupancy : (linkEnded s).occupancy = s.occupancy := rfl
@[simp] theorem linkEnded_hold : (linkEnded s).hold = s.hold := rfl
@[simp] theorem linkEnded_cacheQ : (linkEnded s).cacheQ = s.cacheQ := rfl
@[simp] theorem linkEnded_sweepReq : (linkEnded s).sweepReq = s.sweepReq := rfl
@[simp] theorem linkEnded_inFlight : (linkEnded s).inFlight = s.inFlight := rfl
@[simp] theorem linkEnded_owedCount : (linkEnded s).owedCount = s.owedCount := rfl
@[simp] theorem linkEnded_stats : (linkEnded s).stats = s.stats := rfl
@[simp] theorem linkEnded_sweepPos : (linkEnded s).sweepPos = s.sweepPos := rfl
@[simp] theorem linkEnded_interval : (linkEnded s).interval = s.interval := rfl
@[simp] theorem linkEnded_remembered : (linkEnded s).remembered = s.remembered := rfl
@[simp] theorem linkEnded_notices : (linkEnded s).notices = s.notices := rfl
@[simp] theorem linkEnded_engine : (linkEnded s).engine = s.engine := rfl
@[simp] theorem linkEnded_cmdQueue : (linkEnded s).cmdQueue = s.cmdQueue := rfl
@[simp] theorem linkEnded_responses : (linkEnded s).responses = s.responses := rfl
@[simp] theorem linkEnded_lastAcceptance : (linkEnded s).lastAcceptance = s.lastAcceptance := rfl
@[simp] theorem linkEnded_linkWaits : (linkEnded s).linkWaits = s.linkWaits := rfl
@[simp] theorem linkEnded_linkOut : (linkEnded s).linkOut = s.linkOut := rfl
@[simp] theorem linkEnded_responsesAtEnd : (linkEnded s).responsesAtEnd = s.responses.length := rfl
@[simp] theorem linkEnded_noticesAtEnd : (linkEnded s).noticesAtEnd = s.notices.length := rfl
@[simp] theorem linkEnded_memory : (linkEnded s).memory = s.memory := rfl
@[simp] theorem linkEnded_freeIndex : (linkEnded s).freeIndex = s.freeIndex := rfl

end

/-! ### enterRunning -/

section

variable (s : State)

@[simp] theorem enterRunning_pending : (enterRunning s).pending = s.pending := rfl
@[simp] theorem enterRunning_resetPin : (enterRunning s).resetPin = s.resetPin := rfl
@[simp] theorem enterRunning_device : (enterRunning s).device = .running := rfl
@[simp] theorem enterRunning_setup : (enterRunning s).setup = s.setup := rfl
@[simp] theorem enterRunning_preserved : (enterRunning s).preserved = none := rfl
@[simp] theorem enterRunning_restart : (enterRunning s).restart = s.restart := rfl
@[simp] theorem enterRunning_pass : (enterRunning s).pass = .none := rfl
@[simp] theorem enterRunning_now : (enterRunning s).now = s.now := rfl
@[simp] theorem enterRunning_tickInProgress : (enterRunning s).tickInProgress = s.tickInProgress := rfl
@[simp] theorem enterRunning_rules : (enterRunning s).rules = s.rules := rfl
@[simp] theorem enterRunning_stage : (enterRunning s).stage = s.stage := rfl
@[simp] theorem enterRunning_transfer : (enterRunning s).transfer = s.transfer := rfl
@[simp] theorem enterRunning_ingress : (enterRunning s).ingress = s.ingress := rfl
@[simp] theorem enterRunning_egress : (enterRunning s).egress = s.egress := rfl
@[simp] theorem enterRunning_ports : (enterRunning s).ports = s.ports := rfl
@[simp] theorem enterRunning_cellsInside : (enterRunning s).cellsInside = s.cellsInside := rfl
@[simp] theorem enterRunning_egressOut : (enterRunning s).egressOut = s.egressOut := rfl
@[simp] theorem enterRunning_lines : (enterRunning s).lines = s.lines := rfl
@[simp] theorem enterRunning_hand : (enterRunning s).hand = s.hand := rfl
@[simp] theorem enterRunning_missTable : (enterRunning s).missTable = s.missTable := rfl
@[simp] theorem enterRunning_occupancy : (enterRunning s).occupancy = s.occupancy := rfl
@[simp] theorem enterRunning_hold : (enterRunning s).hold = s.hold := rfl
@[simp] theorem enterRunning_cacheQ : (enterRunning s).cacheQ = s.cacheQ := rfl
@[simp] theorem enterRunning_sweepReq : (enterRunning s).sweepReq = s.sweepReq := rfl
@[simp] theorem enterRunning_inFlight : (enterRunning s).inFlight = s.inFlight := rfl
@[simp] theorem enterRunning_owedCount : (enterRunning s).owedCount = s.owedCount := rfl
@[simp] theorem enterRunning_stats : (enterRunning s).stats = s.stats := rfl
@[simp] theorem enterRunning_sweepPos : (enterRunning s).sweepPos = s.sweepPos := rfl
@[simp] theorem enterRunning_interval : (enterRunning s).interval = 0 := rfl
@[simp] theorem enterRunning_remembered : (enterRunning s).remembered = false := rfl
@[simp] theorem enterRunning_notices : (enterRunning s).notices = s.notices := rfl
@[simp] theorem enterRunning_engine : (enterRunning s).engine = s.engine := rfl
@[simp] theorem enterRunning_cmdQueue : (enterRunning s).cmdQueue = s.cmdQueue := rfl
@[simp] theorem enterRunning_responses : (enterRunning s).responses = s.responses := rfl
@[simp] theorem enterRunning_lastAcceptance : (enterRunning s).lastAcceptance = s.lastAcceptance := rfl
@[simp] theorem enterRunning_linkWaits : (enterRunning s).linkWaits = s.linkWaits := rfl
@[simp] theorem enterRunning_linkOut : (enterRunning s).linkOut = s.linkOut := rfl
@[simp] theorem enterRunning_responsesAtEnd : (enterRunning s).responsesAtEnd = s.responsesAtEnd := rfl
@[simp] theorem enterRunning_noticesAtEnd : (enterRunning s).noticesAtEnd = s.noticesAtEnd := rfl
@[simp] theorem enterRunning_memory : (enterRunning s).memory = s.memory := rfl
@[simp] theorem enterRunning_freeIndex : (enterRunning s).freeIndex = s.freeIndex := rfl

end

end Sys2Proof.Laws.State
end

