-- ==== Sys2Proof/Laws/Store.lean ====
section
/-! SUPPORT. Victim selection: what the scan and the selection leave, said once (R67). -/

namespace Sys2Proof.Laws

open Sys2Proof Sys2Proof.Machine Sys2Proof.Safety

/-- A line is another line but for its referenced flag, which may have been cleared. -/
def SameButReferenced (l m : Line) : Prop := m = l ∨ m = unreferenced l

theorem SameButReferenced.trans {l m k : Line} (h1 : SameButReferenced l m) (h2 : SameButReferenced m k) :
    SameButReferenced l k := by
  rcases h1 with rfl | rfl
  · exact h2
  · rcases h2 with rfl | rfl
    · exact .inr rfl
    · right
      cases l <;> rfl

/-- The scan ends on a VALID, unreferenced, unpinned line that is no target line, and has changed nothing but
referenced flags (R67). -/
theorem scan_some {t : List Entry} {fuel : Nat} {i : Fin 64} {ls : Vector Line 64} {j : Fin 64}
    {ms : Vector Line 64} (h : scan t fuel i ls = some (j, ms)) :
    (∃ n r d, lineAt ms j = .valid n r d false false) ∧ isTarget t j = false ∧
      ∀ k, SameButReferenced (lineAt ls k) (lineAt ms k) := by
  induction fuel generalizing i ls with
  | zero => cases h
  | succ fuel ih =>
    simp only [scan] at h
    split at h
    · rename_i n r d f p hl
      split at h
      · exact ih h
      · rename_i hp
        split at h
        · obtain ⟨h1, h2, h3⟩ := ih h
          refine ⟨h1, h2, fun k => .trans ?_ (h3 k)⟩
          rw [lineAt_set]
          split
          · rename_i hk
            right
            rw [hk, hl]
            rfl
          · exact .inl rfl
        · rename_i hf
          cases h
          simp only [Bool.or_eq_true, not_or, Bool.not_eq_true] at hp hf
          refine ⟨⟨n, r, d, ?_⟩, hp.2, fun k => .inl rfl⟩
          rw [hl, hf, hp.1]
    · exact ih h

/-- Victim selection: the target line is now FILLING for the record, or EVICTING a dirty copy with its write-back
requested; before, it was EMPTY, or VALID, unpinned and no target line. Every other line is the same but for its
referenced flag (R67). -/
theorem selectVictim_some {s : State} {n : Nat} {v : Victim} (h : selectVictim s n = some v) :
    (lineAt v.lines v.target = .filling n ∧ v.request = [] ∨
      ∃ old r, lineAt v.lines v.target = .evicting old r n ∧ v.request = [.writeBack v.target]) ∧
    (lineAt s.lines v.target = .empty ∨
      (∃ old r d f, lineAt s.lines v.target = .valid old r d f false) ∧ isTarget s.missTable v.target = false) ∧
    ∀ k, k ≠ v.target → SameButReferenced (lineAt s.lines k) (lineAt v.lines k) := by
  unfold selectVictim at h
  split at h
  · rename_i i hi
    cases h
    have he : lineAt s.lines i = .empty := by
      have := List.find?_some hi
      unfold Line.isEmpty at this
      split at this
      · assumption
      · cases this
    refine ⟨.inl ⟨by rw [lineAt_set, if_pos rfl], rfl⟩, .inl he, fun k hk => ?_⟩
    rw [lineAt_set, if_neg hk]
    exact .inl rfl
  · split at h
    · cases h
    · rename_i i ls hs
      obtain ⟨⟨m, r, d, hl⟩, ht, hall⟩ := scan_some hs
      have hbefore : ∃ old r d f, lineAt s.lines i = .valid old r d f false := by
        rcases hall i with e | e
        · exact ⟨m, r, d, false, e ▸ hl⟩
        · rw [hl] at e
          cases hb : lineAt s.lines i <;> rw [hb] at e <;> simp only [unreferenced, reduceCtorEq, Line.valid.injEq] at e
          obtain ⟨rfl, rfl, rfl, _, rfl⟩ := e
          exact ⟨_, _, _, _, rfl⟩
      have others (l : Line) (k : Fin 64) (hk : k ≠ i) :
          SameButReferenced (lineAt s.lines k) (lineAt (ls.set i.val l i.isLt) k) := by
        rw [lineAt_set, if_neg hk]
        exact hall k
      split at h
      · rename_i old q _ _ hq
        cases h
        exact ⟨.inr ⟨old, q, by rw [lineAt_set, if_pos rfl], rfl⟩, .inr ⟨hbefore, ht⟩, fun k hk => others _ k hk⟩
      · cases h
        exact ⟨.inl ⟨by rw [lineAt_set, if_pos rfl], rfl⟩, .inr ⟨hbefore, ht⟩, fun k hk => others _ k hk⟩

end Sys2Proof.Laws
end

