-- ==== Sys2Proof/WellFormed.lean ====
section
/-! DEFINITION. Which events a partner of the WB7160 can present: the bounds the spec gives their operands. -/

namespace Sys2Proof

/-- Damage names words of one image, sixteen of them (R88), and some bit of each. -/
def Damage.wellFormed (d : Damage) : Bool :=
  d.all fun p => decide (p.1 < 16) && p.2 != 0#72

/-- No more notices can have joined the queue than it holds (R118). -/
def ReadWithin.wellFormed (r : ReadWithin) : Bool := decide (r.entered ≤ Config.noticePlaces)

/-- As `ReadWithin.wellFormed`, for every NOTICE-READ within a visit; and no more commands have their claims within it
than can be outstanding (R162). -/
def VisitEvents.wellFormed (v : VisitEvents) : Bool :=
  decide (v.claims ≤ Config.outstandingLimit) &&
  [v.idle, v.owedExpired, v.owedIdle, v.owedAlert, v.owedFaulted].all fun r => r.toList.all ReadWithin.wellFormed

/-- An abandoned transaction has clocked its kind byte, and no more than the defined bytes before its last; no more
members can have joined a queue than it holds (R118, R160, R162, R166). -/
def Abandoned.wellFormed : Abandoned → Bool
  | .unnamed => true
  | .command clocked => decide (0 < clocked) && decide (clocked ≤ 260)
  | .responseRead entered clocked => decide (entered ≤ Config.outstandingLimit) && decide (0 < clocked)
  | .noticeRead entered clocked => decide (entered ≤ Config.noticePlaces) && decide (0 < clocked)
  | .linkStatus clocked => decide (0 < clocked) && decide (clocked ≤ 8)

/-- The check on one event: memory addresses inside the address pins' reach (section 12.5), a word count inside one
image (R88), a frame length that fits the length byte (R160), no more joined a queue than it holds (R118, R162), no
claim within a visit to a held record (R115), a void transaction that names no kind (R159), a requester's record number
that exists (R1). -/
def Instr.wellFormed : Instr → Bool
  | .powerOn _ sram errors =>
      (sram.all fun p => decide (p.1 < 8 * Config.memoryWords)) &&
        errors.all fun p => decide (p.1 < Config.memoryWords)
  | .resetPinAssert words => decide (words < 16)
  | .resetPinDeassert _ => true
  | .tick => true
  | .sweepStep during => during.wellFormed
  | .ingressTransferBegin _ => true
  | .cellAccept _ => true
  | .ingressHeadLeaves => true
  | .egressPlaceGrant .stage => true
  | .egressPlaceGrant (.entry number) => decide (number < Config.maxRecords)
  | .cellEmit => true
  | .memoryIssue => true
  | .writeBackComplete => true
  | .fillReadComplete d => d.wellFormed
  | .sweepReadComplete d during => d.wellFormed && during.wellFormed && during.claims == 0
  | .sweepWriteComplete during => during.wellFormed
  | .formatWriteComplete => true
  | .resumeReadComplete d => d.wellFormed
  | .resumeWriteComplete => true
  | .restartWriteBackRequest => true
  | .restartComplete => true
  | .command _ _ params _ _ => decide (params.length ≤ 255)
  | .responseRead entered _ => decide (entered ≤ Config.outstandingLimit)
  | .noticeRead entered _ => decide (entered ≤ Config.noticePlaces)
  | .linkStatus _ => true
  | .voidTransaction first _ => (LinkKind.ofCode first).isNone
  | .transactionAbandon what => what.wellFormed
  | .setup => true
  | .format => true
  | .resume => true
  | .restart => true
  | .status => true
  | .ruleWrite => true
  | .ruleRead => true
  | .admitRecord => true
  | .amend => true
  | .hold => true
  | .release => true
  | .retire => true
  | .query => true
  | .pin => true
  | .unpin => true
  | .commandStepRetry => true
  | .partialCellDropped _ => true

end Sys2Proof
end

