-- ==== Sys2Proof/Tests/Slice0.lean ====
section
/-! SUPPORT. The tests: ill-formed events refused, worked values of the spec, and for every statement with hypotheses a
state and operands that meet them together. -/

namespace Sys2Proof.Tests

-- One test after the other: each needs a thread of its own otherwise, and there is no room for all of them at once.
set_option Elab.async false

open Sys2Proof Sys2Proof.Machine Sys2Proof.Safety

/-! ### States and operands -/

/-- RUNNING, right after reset otherwise. -/
def runningState : State := { State.reset with device := .running }

/-- An ACTIVE record: label 7, generation 3, depth 8192, a full budget. -/
def active : Record :=
  { Record.blank with state := .active, label := 7, generation := 3, depth := 8192, budget := 8192 }

/-- `r` as record 7 in line 2. -/
def holding (r : Record) (pinned : Bool) : State :=
  { runningState.setLine 2 (.valid 7 r false false pinned) with occupancy := [7] }

/-- A cell with this label and this mark flag byte, a good header check and a payload of zeros. -/
def cellOf (label : Nat) (flags : Byte) : Cell :=
  let header := beBytes 3 label ++ [flags]
  let bytes := header ++ checkBytes (crc16 header)
  Vector.ofFn fun i : Fin 64 => bytes.getD i.val 0

/-- The current command with this code and these parameters. -/
def current (s : State) (code : Byte) (params : List Byte) : State :=
  { s with engine := .checking ⟨9, code, params⟩ }

/-- An entry for record 7 with line 2 as its target. -/
def entry7 (phase : Phase) (fillDone : Bool) (waiters : List Waiter) : Entry := ⟨7, phase, 2, fillDone, waiters⟩

/-- A notice. -/
def note : Notice := ⟨.expired, 1, 0, 0⟩

/-- The next state of an outcome, the reset state for any other. -/
def after (o : Host.Outcome State Fault Refusal) : State :=
  match o with
  | .next t => t
  | _ => State.reset

/-- Contract parameters: rate 2, depth 8192, the other parts absent. -/
def block0 (presence : Byte) (expiry : Nat) : List Byte :=
  beBytes 2 2 ++ beBytes 4 8192 ++ beBytes 2 0 ++ beBytes 2 0 ++ [0, presence] ++ beBytes 6 expiry ++ beBytes 4 0 ++
    beBytes 4 0

/-! ### Ill-formed events -/

theorem test_wellFormed_sram_address : Instr.wellFormed (.powerOn false [(2097152, 1)] []) = false := by decide

theorem test_wellFormed_error_address : Instr.wellFormed (.powerOn false [] [(262144, 1)]) = false := by decide

theorem test_wellFormed_cut_words : Instr.wellFormed (.resetPinAssert 16) = false := by decide

theorem test_wellFormed_damage_word : Instr.wellFormed (.fillReadComplete [(16, 1)]) = false := by decide

theorem test_wellFormed_damage_mask : Instr.wellFormed (.sweepReadComplete [(0, 0)] .none) = false := by decide

theorem test_wellFormed_damage_resume : Instr.wellFormed (.resumeReadComplete [(16, 1)]) = false := by decide

theorem test_wellFormed_requester : Instr.wellFormed (.egressPlaceGrant (.entry 16384)) = false := by decide

theorem test_wellFormed_frame_length :
    Instr.wellFormed (.command 0 0 (List.replicate 256 0) 0 0) = false := by decide +kernel

theorem test_wellFormed_response_count : Instr.wellFormed (.responseRead 9 0) = false := by decide

theorem test_wellFormed_notice_count : Instr.wellFormed (.noticeRead 17 0) = false := by decide

theorem test_wellFormed_void_kind : Instr.wellFormed (.voidTransaction 0xA1 0) = false := by decide

theorem test_wellFormed_abandoned_count :
    Instr.wellFormed (.transactionAbandon (.responseRead 9 1)) = false := by decide

theorem test_wellFormed_abandoned_notice :
    Instr.wellFormed (.transactionAbandon (.noticeRead 17 1)) = false := by decide

theorem test_wellFormed_abandoned_clocked :
    Instr.wellFormed (.transactionAbandon (.command 261)) = false ∧
      Instr.wellFormed (.transactionAbandon (.linkStatus 9)) = false ∧
      Instr.wellFormed (.transactionAbandon (.noticeRead 0 0)) = false := by decide

theorem test_wellFormed_visit_reads :
    Instr.wellFormed (.sweepStep { VisitEvents.none with owedIdle := some ⟨17, 0⟩ }) = false ∧
      Instr.wellFormed (.sweepReadComplete [] { VisitEvents.none with idle := some ⟨17, 0⟩ }) = false ∧
      Instr.wellFormed (.sweepWriteComplete { VisitEvents.none with owedFaulted := some ⟨17, 0⟩ }) = false := by decide

theorem test_wellFormed_visit_claims :
    Instr.wellFormed (.sweepStep { VisitEvents.none with claims := 9 }) = false ∧
      Instr.wellFormed (.sweepReadComplete [] { VisitEvents.none with claims := 1 }) = false ∧
      Instr.wellFormed (.sweepWriteComplete { VisitEvents.none with claims := 9 }) = false ∧
      Instr.wellFormed (.sweepStep { VisitEvents.none with claims := 8 }) = true := by decide

theorem test_wellFormed_good : Instr.wellFormed (.fillReadComplete [(15, 1)]) = true ∧
    Instr.wellFormed (.voidTransaction 0xA5 3) = true ∧ Instr.wellFormed (.resetPinAssert 15) = true := by decide

/-! ### Worked values of the spec -/

/-- The CRC-16 of the digits 1 to 9 (R179). -/
theorem test_crc16_digits : crc16 [0x31, 0x32, 0x33, 0x34, 0x35, 0x36, 0x37, 0x38, 0x39] = 0x29B1 := by
  decide +kernel

/-- Row 1002 of section 2.5: rate 2048, depth 12288, a budget of 8192 left at tick 1001; the cell passes and leaves
6144. -/
theorem test_evaluate_pass :
    (evaluate { active with sustainedRate := 2048, depth := 12288, budget := 8192, lastUpdate := 1001 } 7 1002).copy.budget
      = 6144 := by decide +kernel

/-- A cell sooner than the minimum spacing of 10 - 3 = 7 ticks violates peak (section 2.6). -/
theorem test_evaluate_peak :
    (evaluate { active with peakInterval := 10, peakTolerance := 3, peakAction := 1, lastConform := some 2012 } 7
      2018).verdict = .discard .excess := by decide +kernel

/-- Seven ticks after the last conforming cell it conforms. -/
theorem test_evaluate_spacing_met :
    (evaluate { active with peakInterval := 10, peakTolerance := 3, peakAction := 1, lastConform := some 2012 } 7
      2019).verdict = .pass := by decide +kernel

/-- An OK response's frame: length, tag, code, outcome, payload (R182). -/
theorem test_responseFrame : (responseFrame ⟨5, codeAdmit, .ok, [0, 3]⟩).take 6 = [2, 5, 0x30, 0, 0, 3] := by
  decide +kernel

/-- The image of an ACTIVE record with generation 3: identity word and label word (R183). -/
theorem test_image_words : (encodeImage active).take 3 = [0x30001, 7, 8192] := by decide +kernel

/-- The first cell of a transfer that follows a full one is taken on a free place (R126). -/
theorem test_cell_bytes : (cellOfTransfer 0xAB (Vector.replicate 63 0xCD))[0] = 0xAB ∧
    (cellOfTransfer 0xAB (Vector.replicate 63 0xCD))[63] = 0xCD := by decide +kernel

/-- A start-of-cell byte within a transfer begins a new one where ingress-ready is asserted (R126). -/
theorem test_partial_cell_while_ready :
    exec (.partialCellDropped 2) { runningState with transfer := some 1 } =
      .next { runningState with transfer := some 2 } := by rfl

/-- With 16 notices waiting, a NOTICE-READ before the EXPIRED offer lets that one kind in; the IDLE kind, with no read
before it, stays owed (R114, R119). -/
theorem test_notice_read_between_offers :
    (visitActions { VisitEvents.none with owedExpired := some ⟨0, 0⟩ }
      { runningState with notices := List.replicate 16 ⟨.alert 0, 1, 0, 0⟩, noticesAtEnd := 16, owedCount := 1 } 7
      (faultedCopy 1 true ⟨true, true, false, false⟩ .fill false)).2.owed = ⟨false, true, false, false⟩ := by
  decide +kernel

/-- The count byte of a read is the queue's length where nothing has joined it since: on a queue of one, no read can
have found it empty (R164). -/
theorem test_count_is_the_queue_length :
    (exec (.responseRead 1 0) { runningState with responses := [⟨1, codeStatus, .ok, []⟩], responsesAtEnd := 1 } =
      .next { runningState with responses := [⟨1, codeStatus, .ok, []⟩], responsesAtEnd := 1 }) ∧
      (readResponse { runningState with responses := [⟨1, codeStatus, .ok, []⟩], responsesAtEnd := 1 } 0 0).responses =
        [] := ⟨rfl, by decide +kernel⟩

/-- The first byte of a transaction names its kind (R181). -/
theorem test_transaction_kinds :
    transactionEvent runningState [0xA1, 0, 5, 0x14, 0x12, 0x34, 0] 0 = .command 5 0x14 [] 0x1234 1 ∧
      transactionEvent runningState [0xA2, 0] 0 = .responseRead 0 0 ∧
      transactionEvent runningState [0xA3] 0 = .transactionAbandon (.noticeRead 0 1) ∧
      transactionEvent runningState (0xA4 :: List.replicate 10 0) 0 = .linkStatus 2 ∧
      transactionEvent runningState [0xA5, 0] 0 = .voidTransaction 0xA5 1 := by decide +kernel

/-- The reads of a queue that holds a member, at the last byte of the head's frame and one byte before it: ten bytes
for a response with two bytes of payload, nineteen for a notice (R164, R165). -/
theorem test_transaction_ends :
    (∀ s : State, { runningState with responses := [⟨5, codeAdmit, .ok, [0, 3]⟩] } = s →
      transactionEvent s (0xA2 :: List.replicate 9 0) 0 = .responseRead 0 0 ∧
        transactionEvent s (0xA2 :: List.replicate 8 0) 0 = .transactionAbandon (.responseRead 0 9) ∧
        transactionEvent s [0xA2, 0] 1 = .responseRead 1 0) ∧
      (∀ s : State, { runningState with notices := [⟨.expired, 1, 0, 0⟩] } = s →
        transactionEvent s (0xA3 :: List.replicate 18 0) 0 = .noticeRead 0 0 ∧
          transactionEvent s (0xA3 :: List.replicate 17 0) 0 = .transactionAbandon (.noticeRead 0 18)) ∧
      transactionEvent runningState [0xA1, 1, 5, 0x21, 0, 0x12] 0 = .transactionAbandon (.command 6) ∧
      transactionEvent runningState (0xA4 :: List.replicate 7 0) 0 = .transactionAbandon (.linkStatus 8) :=
  ⟨fun s h => by subst h; decide +kernel, fun s h => by subst h; decide +kernel, by decide +kernel, by decide +kernel⟩

/-- The block idles on an empty queue. -/
theorem test_idle : step State.reset = .next State.reset := rfl

/-- A word of the table spells no event: the queue is as it was. -/
theorem test_fetchWord : (runningState.withFetchWord 8 0).pending = [] := rfl

/-! ### The statements' hypotheses are met

One theorem or a few for each statement, at the values where its clauses meet. -/

/-- `s` at tick 5 with `n` notices waiting. -/
def at5 (n : Nat) : State := { runningState with now := 5, notices := List.replicate n note }

/-- A sweep step is due. -/
def due : State := { runningState with interval := 100, occupancy := [7] }

/-- Every line VALID and referenced, records 100 to 163. -/
def fullLines : Vector Line 64 := Vector.ofFn fun i => .valid (100 + i.val) active false true false

/-- RUNNING with `n` entries for records 200 on. -/
def withEntries (n : Nat) : State :=
  { runningState with missTable := (List.range n).map fun k => ⟨200 + k, .reading, Fin.ofNat 64 (10 + k), false, []⟩ }

theorem test_meets_StepTakesFrontEvent : State.reset.pending = [] := rfl

theorem test_meets_ResetLeavesListedValues :
    State.reset.resetPin = false ∧ { State.reset with resetPin := true }.resetPin = true := ⟨rfl, rfl⟩

theorem test_meets_EventsThatCannotOccurDoNothing :
    (isResetEvent .tick = false ∧ { State.reset with resetPin := true }.resetPin = true) ∧
      (Instr.setup, codeSetup) ∈ allCommands ∧
        ∀ c, (current State.reset codeStatus []).engine = .checking c → c.code ≠ codeSetup :=
  ⟨by decide, by decide, fun c h => by cases h; decide⟩

theorem test_meets_MemoryAcrossReset :
    Memory.wf ⟨[(0, 1)], [(0, 1)]⟩ ∧
      (∀ x rest, State.reset.inFlight = x :: rest → writeInFlight State.reset x = none) ∧
      ∃ s : State, s.resetPin = false ∧ s.inFlight = [.formatWrite 16383] ∧
        writeInFlight s (.formatWrite 16383) = some (16383, Record.blank) ∧ 16383 < Config.maxRecords :=
  ⟨by decide, fun x rest h => (by cases h), { State.reset with inFlight := [.formatWrite 16383] }, rfl, rfl, rfl, by decide⟩

theorem test_meets_TimeBaseCounts :
    ({ runningState with now := BitVec.allOnes 48 }.now = BitVec.allOnes 48 ∧ runningState.resetPin = false) ∧
      (∃ t, exec (.linkStatus 0) runningState = .next t) ∧ isResetEvent (.linkStatus 0) = false ∧ Instr.linkStatus 0 ≠ .tick ∧
      (∃ t, exec (.powerOn true [] []) runningState = .next t) ∧
      (∃ t, exec (.resetPinAssert 0) runningState = .next t) ∧
      ∃ t, exec (.resetPinDeassert false) { State.reset with resetPin := true } = .next t :=
  ⟨⟨rfl, rfl⟩, ⟨_, rfl⟩, rfl, by decide, ⟨_, rfl⟩, ⟨_, rfl⟩, ⟨_, rfl⟩⟩

theorem test_meets_NextOccupiedRecord :
    nextOccupied [3, 9] 3 = some 9 ∧ nextOccupied [3, 9] 9 = some 3 ∧ nextOccupied [3, 9] 2 = some 3 ∧
      nextOccupied [] 9 = none ∧ due.resetPin = false ∧ due.setup.sweepInterval ≤ due.interval ∧ due.hold = .none := by
  decide +kernel

theorem test_meets_SweepStepResult :
    (runningState.resetPin = false ∧ ¬({ due with interval := 99 }.setup.sweepInterval ≤ 99)) ∧
      (due.resetPin = false ∧ due.device = .running ∧ due.setup.sweepInterval ≤ due.interval ∧ due.hold = .none ∧
        nextOccupied due.occupancy due.sweepPos = some 7 ∧ standing due 7 = .absent) ∧
      { due with hold := .reading 9 }.hold ≠ .none ∧ { due with occupancy := [] }.hold = .none ∧
      standing { due with missTable := [entry7 .reading false []] } 7 = .named ∧
      standing (due.setLine 2 (.evicting 7 active 9)) 7 = .evicting ∧
      ResidentIn { holding active false with interval := 100 } 7 2 active false false false ∧
      nextOccupied (holding active false).occupancy (holding active false).sweepPos = some 7 := by decide +kernel

/-- A sweep step is due with record 7 resident and idle beyond its limit, and a RETIRE of it is at its checks. -/
def retiringWithin : State :=
  current { holding { active with idleLimit := some 1 } false with interval := 100, now := 5 } codeRetire [0, 7, 0, 3]

theorem test_meets_SweepStepResult_claims :
    RecordCommand retiringWithin ⟨9, codeRetire, [0, 7, 0, 3]⟩ codeRetire 7 ∧ retiringWithin.setup.guard ≤ 7 ∧
      ResidentIn retiringWithin 7 2 { active with idleLimit := some 1 } false false false ∧
      field16 [0, 7, 0, 3] 2 = active.generation ∧ retiringWithin.setup.sweepInterval ≤ retiringWithin.interval ∧
      retiringWithin.hold = .none ∧ nextOccupied retiringWithin.occupancy retiringWithin.sweepPos = some 7 ∧
      (∃ t, exec .retire retiringWithin = .next t ∧ t.engine = .idle) ∧
      (Instr.retire, codeRetire) ∈ recordCommands ∧
      (∃ t, exec .hold (current (withEntries 7) codeHold [0, 7, 0, 3]) = .next t ∧
        t.engine = .waitingOnEntry ⟨9, codeHold, [0, 7, 0, 3]⟩) ∧
      ∀ c, due.engine ≠ .checking c :=
  ⟨by decide +kernel, by decide +kernel, by decide +kernel, by decide +kernel, by decide +kernel, by decide +kernel,
    by decide +kernel, ⟨_, rfl, by decide +kernel⟩, by decide +kernel, ⟨_, rfl, by decide +kernel⟩,
    fun c h => by cases h⟩

/-- The visit after that RETIRE finds the record VACANT and raises no notice; the visit before it would raise IDLE
(R107, R115). -/
theorem test_retire_between_choice_and_claim :
    (after (exec (.sweepStep { VisitEvents.none with claims := 1 }) retiringWithin)).notices = [] ∧
      (after (exec (.sweepStep .none) retiringWithin)).notices.length = 1 := by decide +kernel

theorem test_meets_VisitActionsOutcome :
    (Record.blank.state = .vacant ∧ (faultedCopy 1 true .empty .fill false).state = .faulted ∧
      active.admitted = true) ∧
    (∃ r : Record, r.admitted = true ∧ r.expiry = some 5 ∧ (5 : Tick).toNat ≤ (at5 15).now.toNat ∧ r.state ≠ .expired ∧
      (at5 15).notices.length < 16 ∧ 16 ≤ (at5 16).notices.length) ∧
    (∃ r : Record, r.admitted = true ∧ (∀ e, r.expiry = some e → (at5 0).now.toNat < e.toNat) ∧
      ¬(r.state = .active ∧ r.idleReported = false ∧
        ∃ l, r.idleLimit = some l ∧ l.toNat ≤ ((at5 0).now - r.lastSeen).toNat)) ∧
    ∃ r : Record, r.state = .active ∧ r.idleReported = false ∧ r.idleLimit = some 5 ∧ r.autoRetire = true ∧
      (5 : BitVec 32).toNat ≤ ((at5 0).now - r.lastSeen).toNat ∧ { r with autoRetire := false }.autoRetire = false :=
  ⟨by decide +kernel, ⟨{ active with expiry := some 5 }, by decide +kernel⟩,
    ⟨{ active with expiry := some 6, idleLimit := some 6 }, by decide +kernel, fun e h => (by cases h; decide +kernel),
      fun ⟨_, _, l, h, hl⟩ => (by cases h; revert hl; decide +kernel)⟩,
    ⟨{ active with idleLimit := some 5, autoRetire := true }, by decide +kernel⟩⟩

theorem test_meets_NoticesQueuedOrOwed :
    ((at5 15).notices.length < 16 ∧ 16 ≤ (at5 16).notices.length ∧ (at5 16).resetPin = false) ∧
      (⟨false, true, false, false⟩ : OwedSet).has .expired = false ∧
      (⟨false, true, false, false⟩ : OwedSet).has .idle = true := by decide +kernel

/-- A NOTICE-READ before an offer leaves room for it. -/
theorem test_meets_NoticesQueuedOrOwed_read :
    (readWithin (at5 16) (some ⟨0, 0⟩)).notices.length < 16 ∧ 16 ≤ (readWithin (at5 16) none).notices.length := by
  decide +kernel

theorem test_meets_QueuesKeepTheirOrder :
    (∃ t, exec (.noticeRead 0 0) (at5 1) = .next t ∧ t.notices = []) ∧ isResetEvent (.noticeRead 0 0) = false :=
  ⟨⟨_, rfl, by decide +kernel⟩, rfl⟩

theorem test_meets_CellPortTransfers :
    ({ runningState with ingress := List.replicate 14 (cellOf 7 0), transfer := some 0 }.device = .running ∧
      { runningState with ingress := List.replicate 14 (cellOf 7 0), transfer := some 0 }.ingress.length +
        (some (0 : Byte)).toList.length < 16) ∧
      ¬({ runningState with ingress := List.replicate 15 (cellOf 7 0), transfer := some 0 }.ingress.length +
        (some (0 : Byte)).toList.length < 16) ∧
      runningState.transfer = none ∧ runningState.resetPin = false ∧ runningState.egress = [] ∧
      { runningState with egress := [⟨cellOf 7 0, .mark⟩] }.egress = [⟨cellOf 7 0, .mark⟩] := by decide +kernel

/-- RUNNING with this cell at the head of the Ingress FIFO and the labels mapped to the records of their number. -/
def withHead (c : Cell) : State :=
  { runningState with ingress := [c], rules := runningState.rules.set 0 ⟨true, 0, 0, 0, 14, 0, 4096⟩ }

theorem test_meets_LabelMapLookup :
    mapLabel (withHead (cellOf 7 0)).rules 4095 = some 4095 ∧ mapLabel (withHead (cellOf 7 0)).rules 4096 = none := by
  decide +kernel

theorem test_meets_IngressHeadResult :
    headerCrc ((cellOf 7 0).set 5 ((cellOf 7 0)[5] + 1)) ≠ cellCheck ((cellOf 7 0).set 5 ((cellOf 7 0)[5] + 1)) ∧
      headerCrc (cellOf 7 0) = cellCheck (cellOf 7 0) ∧
      mapLabel (withHead (cellOf 7 0)).rules (cellLabel (cellOf 7 0)) = some 7 ∧
      mapLabel runningState.rules (cellLabel (cellOf 7 0)) = none ∧ (withHead (cellOf 7 0)).stage = none ∧
      runningState.setup.unadmitted = .discard ∧ 7 ∉ runningState.occupancy ∧ 7 ∈ due.occupancy ∧
      { runningState.setup with unadmitted := .pass }.unadmitted = .pass := by decide +kernel

/-- RUNNING with an entry for record 7 on which `n` cells wait. -/
def waiting (n : Nat) : State :=
  { runningState with missTable := [entry7 .reading false (List.replicate n (.cell (cellOf 7 0)))] }

theorem test_meets_CellOfferAnswered :
    EntryAt (waiting 31).missTable 7 [] (entry7 .reading false (List.replicate 31 (.cell (cellOf 7 0)))) [] ∧
      pendingTaken (waiting 31) < 32 ∧ 32 ≤ pendingTaken (waiting 32) ∧ standing (holding active false) 7 = .resident 2 ∧
      standing (withEntries 7) 7 = .absent ∧ (withEntries 7).missTable.length < 8 ∧
      (openEntry (withEntries 7) 7 .reading (.cell (cellOf 7 0))).isSome = true ∧
      8 ≤ (withEntries 8).missTable.length ∧ runningState.setup.overflow = .discard ∧
      standing { runningState with hold := .reading 7 } 7 = .held := by decide +kernel

theorem test_meets_EntryOpenedOnVictim :
    (selectVictim runningState 7).isSome = true ∧
      (lineAt (holding active false).lines 0 = .empty ∧ ∀ j : Fin 64, j < 0 → lineAt (holding active false).lines j ≠ .empty) := by
  decide +kernel

/-- The scan's clauses: the first unreferenced line is 63 places on; or every line is referenced. -/
theorem test_meets_EntryOpenedOnVictim_scan :
    (∃ s : State, (∀ i : Fin 64, lineAt s.lines i ≠ .empty) ∧
      lineAt s.lines (past s.hand 63) = .valid 7 active true false false ∧
      ∀ j, j < 63 → referenced (lineAt s.lines (past s.hand j)) = true) ∧
    ∃ s : State, (∀ i : Fin 64, lineAt s.lines i ≠ .empty) ∧
      lineAt s.lines (past s.hand 0) = .valid 100 active false true false ∧
      ∀ i : Fin 64, referenced (lineAt s.lines i) = true :=
  ⟨⟨{ runningState with lines := fullLines.set 63 (.valid 7 active true false false) }, by decide +kernel⟩,
    ⟨{ runningState with lines := fullLines }, by decide +kernel⟩⟩

/-- 48 pinned lines and 7 entries with FILLING targets. -/
def crowded : State :=
  { withEntries 7 with
    lines := Vector.ofFn fun i =>
      if 10 ≤ i.val ∧ i.val < 17 then .filling (190 + i.val)
      else .valid (100 + i.val) active false true (decide (16 ≤ i.val)) }

theorem test_meets_VictimAlwaysChosen :
    pinnedCount crowded ≤ 48 ∧ 47 ≤ pinnedCount crowded ∧ crowded.missTable.length ≤ 7 ∧
      ∀ i : Fin 64, reservedLine (lineAt crowded.lines i) = true → isTarget crowded.missTable i = true := by
  decide +kernel

theorem test_meets_RefreshResult :
    ((5 : Tick) - active.lastUpdate).toNat + ((9 : Tick) - 5).toNat < 2 ^ 48 := by decide +kernel

theorem test_meets_EvaluationDiscards :
    (active.admitted = true ∧ (8 : BitVec 24) ≠ active.label ∧ (7 : BitVec 24) = active.label) ∧
      { active with state := .held }.state = .held ∧ { active with state := .expired }.state = .expired ∧
      { active with expiry := some 5 }.expiry = some 5 ∧ (5 : Tick).toNat ≤ (5 : Tick).toNat ∧
      (evaluate active 7 5).verdict = .pass ∧
      (evaluate { active with budget := 0, depth := 4095 } 7 5).verdict = .mark := by decide +kernel

theorem test_meets_EvaluationUnderContract :
    ({ active with expiry := some 6 }.state = .active ∧ ∀ e, { active with expiry := some 6 }.expiry = some e →
      (5 : Tick).toNat < e.toNat) ∧
    (∃ r : Record, r.peakInterval ≠ 0 ∧ r.lastConform = some 3 ∧ r.peakAction = 1 ∧
      ((5 : Tick) - 3).toNat < r.peakInterval.toNat - r.peakTolerance.toNat) ∧
    (({ active with budget := 4095 }.refresh 5).budget.toNat < 4096 ∧ active.sustainedAction = 0 ∧ active.peakAction = 0 ∧
      active.peakInterval = 0 ∧ ¬(({ active with budget := 4096 }.refresh 5).budget.toNat < 4096)) ∧
    ∃ q : Record, ∃ t, q.alertThreshold = some t ∧ q.alertFired = false ∧ t.toNat ≤ q.excessDiscarded.toNat :=
  ⟨⟨rfl, fun e h => by cases h; decide⟩,
    ⟨{ active with peakInterval := 3, lastConform := some 3, peakAction := 1 }, by decide +kernel⟩, by decide +kernel,
    ⟨{ active with alertThreshold := some 2, excessDiscarded := 2 }, 2, by decide +kernel⟩⟩

theorem test_meets_MarkedHeader :
    cellMark (cellOf 7 1) = true ∧ headerCrc (cellOf 7 1) = cellCheck (cellOf 7 1) ∧ cellMark (cellOf 7 0) = false := by
  decide +kernel

theorem test_meets_StageGivenPlace :
    16 ≤ { runningState with egress := List.replicate 16 ⟨cellOf 7 0, .pass⟩ }.egress.length ∧
      runningState.stage = none ∧ { runningState with egress := List.replicate 15 ⟨cellOf 7 0, .pass⟩ }.egress.length < 16 ∧
      { runningState with stage := some (.unpoliced (cellOf 7 0) none) }.stage = some (.unpoliced (cellOf 7 0) none) ∧
      ResidentIn { holding active false with stage := some (.direct (cellOf 7 0) 7) } 7 2 active false false false ∧
      standing { runningState with stage := some (.direct (cellOf 7 0) 7) } 7 = .absent := by decide +kernel

/-- Record 7 in line 2, the target of its entry, with these waiters. -/
def serving (waiters : List Waiter) : State :=
  { holding active false with missTable := [entry7 .reading true waiters] }

theorem test_meets_EntryHeadGivenPlace :
    EntryAt (serving [.cell (cellOf 7 0)]).missTable 7 [] (entry7 .reading true [.cell (cellOf 7 0)]) [] ∧
      (serving []).egress.length < 16 ∧ lineAt (serving []).lines 2 = .valid 7 active false false false := by
  decide +kernel

theorem test_meets_EntryHeadCommandServed :
    (∀ x ∈ runningState.missTable, x.number ≠ 7) ∧
      EntryAt (serving [.command true]).missTable 7 [] (entry7 .reading true [.command true]) [] ∧
      { serving [.command true] with engine := .waitingOnEntry ⟨9, codeAmend, []⟩ }.engine =
        .waitingOnEntry ⟨9, codeAmend, []⟩ ∧
      (Instr.amend, codeAmend) ∈ recordCommands ∧ codeAmend ≠ codeRetire ∧ codeAmend ≠ codeQuery := by decide +kernel

theorem test_meets_MemoryIssueOrder :
    4 ≤ { runningState with inFlight := [.fill 1, .fill 2, .fill 3, .fill 4] }.inFlight.length ∧
      { runningState with inFlight := [.fill 1, .fill 2, .fill 3] }.inFlight.length < 4 ∧ runningState.pass = .none ∧
      { runningState with cacheQ := [.fill 7, .writeBack 2] }.cacheQ = [.fill 7, .writeBack 2] ∧
      { runningState with sweepReq := some (.read 7) }.sweepReq = some (.read 7) ∧ 4095 < runningState.setup.capacity ∧
      runningState.setup.capacity ≤ 4096 := by decide +kernel

theorem test_meets_ImageWritten : 16383 < Config.maxRecords := by decide

theorem test_meets_ReadsAfterWrites :
    active.admitted = true ∧ active.outOfRange = false ∧ 15 < 16 ∧ 70 < 71 ∧ 71 < 72 := by decide +kernel

/-- Words with no, one and two bits in error. -/
theorem test_meets_ReadsAfterWrites_checks :
    errorCount 0 = 0 ∧ errorCount (1#72 <<< 71) = 1 ∧ errorCount (1#72 <<< 71 ||| 1) = 2 := by decide +kernel

/-- What a read of record 7 finds where its image holds `r`. -/
def found (r : Record) (source : FaultSource) (vacant : Bool) (damage : Damage) : Formed :=
  (readImage (writeImage State.reset 7 r) 7 source vacant damage).2

/-- Each cause of the condition a read finds: a fill of a clear map entry whose word 0 is lost (R91); an image already
FAULTED, with a word corrected (R93); a RESUME read of a VACANT image with a word lost (R99, R100); VACANT in a read of
an occupied record, a depth out of range, and every word lost (R92). -/
theorem test_meets_ReadsAfterWrites_conditions :
    ((found active .fill true [(0, 3)]).becameFaulted = false ∧ (found active .fill true [(0, 3)]).copy.generation = 0 ∧
        (found active .fill true []).copy.generation = 3 ∧ (found active .fill true []).dirty = true) ∧
      ((found (faultedCopy 3 true .empty .sweep false) .fill false [(5, 1)]).becameFaulted = false ∧
        (found (faultedCopy 3 true .empty .sweep false) .fill false [(5, 1)]).repair = true) ∧
      ((found Record.blank .resume false [(5, 3)]).becameFaulted = false ∧
        (found Record.blank .resume false [(5, 3)]).repair = true) ∧
      (found Record.blank .sweep false []).becameFaulted = true ∧
      (found { active with depth := 4095 } .fill false []).becameFaulted = true ∧
      (found active .resume false ((List.range 16).map fun k => (k, 3))).copy.owedLost = true ∧
      RecState.ofCode 7 = none := by decide +kernel

/-- RESTARTING past the drain, with the write-back of record 7 in line 2 in flight. -/
def writingBack : State :=
  { (holding active false).setLine 2 (.valid 7 active true false false) with
    device := .restarting, restart := .writingBack 1, inFlight := [.writeBack 2],
    engine := .inOperation ⟨9, codeRestart, []⟩ }

/-- RUNNING with the write-back of record 7, evicted from line 2 for record 9, in flight. -/
def evictingState : State := { runningState.setLine 2 (.evicting 7 active 9) with inFlight := [.writeBack 2] }

theorem test_meets_WriteBackCompleted :
    (evictingState.resetPin = false ∧ evictingState.inFlight = [.writeBack 2] ∧
      lineAt evictingState.lines 2 = .evicting 7 active 9 ∧ 7 < Config.maxRecords) ∧
      (writingBack.resetPin = false ∧ writingBack.inFlight = [.writeBack 2] ∧
        lineAt writingBack.lines 2 = .valid 7 active true false false ∧ writingBack.restart = .writingBack 1 ∧
        writingBack.cacheQ = []) ∧
      ¬({ writingBack with cacheQ := [.writeBack 3] }.cacheQ = []) := by decide +kernel

/-- RUNNING with the fill read of record 7 in flight for its entry. -/
def filling : State :=
  { runningState.setLine 2 (.filling 7) with
    missTable := [entry7 .reading false [.command false]], inFlight := [.fill 7], occupancy := [7] }

/-- Read as zeros, record 7 of a set map entry is VACANT and so becomes FAULTED; of a clear one it is not (R91, R92). -/
theorem test_meets_FillReadCompleted :
    (filling.resetPin = false ∧ filling.inFlight = [.fill 7] ∧ 7 < Config.maxRecords) ∧
      EntryAt filling.missTable 7 [] (entry7 .reading false [.command false]) [] ∧
      (readImage { filling with inFlight := [] } 7 .fill (decide (7 ∉ filling.occupancy)) []).2.becameFaulted = true ∧
      (readImage { filling with inFlight := [] } 7 .fill true []).2.becameFaulted = false := by decide +kernel

/-- RUNNING with the sweep read of record 7 in flight. -/
def sweepReading : State := { due with hold := .reading 7, inFlight := [.sweepRead 7] }

/-- RUNNING with the sweep write of record 7 in flight. -/
def sweepWriting (remembered : Bool) : State :=
  { due with hold := .writing 7 active, inFlight := [.sweepWrite 7], remembered := remembered }

theorem test_meets_SweepReadModifyWrite :
    (sweepReading.resetPin = false ∧ sweepReading.inFlight = [.sweepRead 7] ∧ 7 < Config.maxRecords) ∧
      ∀ b, (sweepWriting b).resetPin = false ∧ (sweepWriting b).inFlight = [.sweepWrite 7] ∧
        (sweepWriting b).hold = .writing 7 active ∧ (sweepWriting b).remembered = b := by decide +kernel

/-- FORMATTING with every write issued and the write of this record in flight. -/
def formatting (n : Nat) : State :=
  { State.reset with
    device := .formatting, pass := .format 4096, engine := .inOperation ⟨9, codeFormat, []⟩, inFlight := [.formatWrite n] }

theorem test_meets_FormatWriteCompleted :
    ∀ n ∈ [4094, 4095], (formatting n).resetPin = false ∧ (formatting n).inFlight = [.formatWrite n] ∧
      (formatting n).pass = .format 4096 ∧ (formatting n).engine = .inOperation ⟨9, codeFormat, []⟩ ∧
      n < Config.maxRecords ∧ (n + 1 = (formatting n).setup.capacity ↔ n = 4095) := by decide +kernel

/-- RESUMING with every read issued, this transaction in flight and these repair writes requested. -/
def resuming (t : Txn) (writes : List (Nat × Record)) : State :=
  { State.reset with
    device := .resuming, pass := .resume 4096 ⟨1, 2, 3, 4, 5⟩ writes, engine := .inOperation ⟨9, codeResume, []⟩,
    preserved := some ⟨4096, 1, 0⟩, inFlight := [t] }

/-- The last read of a pass, whole or damaged, and the last write of one. -/
theorem test_meets_ResumePassCompletions :
    ((resuming (.resumeRead 0) []).resetPin = false ∧ (resuming (.resumeRead 0) []).inFlight = [.resumeRead 0] ∧
      (resuming (.resumeRead 0) []).pass = .resume 4096 ⟨1, 2, 3, 4, 5⟩ [] ∧
      (resuming (.resumeRead 0) []).engine = .inOperation ⟨9, codeResume, []⟩ ∧ 0 < Config.maxRecords ∧
      (resuming (.resumeRead 0) []).setup.capacity ≤ 4096 ∧
      (readImage { resuming (.resumeRead 0) [] with inFlight := [] } 0 .resume false []).2.repair = false ∧
      (readImage { resuming (.resumeRead 0) [] with inFlight := [] } 0 .resume false [(0, 1)]).2.repair = true ∧
      (readImage { resuming (.resumeRead 0) [] with inFlight := [] } 0 .resume false [(0, 3)]).2.becameFaulted = true) ∧
    ∀ w ∈ [[], [(1, active)]],
      (resuming (.resumeWrite 0 active) w).resetPin = false ∧
        (resuming (.resumeWrite 0 active) w).inFlight = [.resumeWrite 0 active] ∧
        (resuming (.resumeWrite 0 active) w).pass = .resume 4096 ⟨1, 2, 3, 4, 5⟩ w ∧
        (resuming (.resumeWrite 0 active) w).engine = .inOperation ⟨9, codeResume, []⟩ := by decide +kernel

/-- RESTARTING with everything drained. -/
def drainedState : State := { holding active false with device := .restarting, restart := .draining }

theorem test_meets_RestartSequence :
    (drainedState.resetPin = false ∧ drained drainedState = true ∧ dirtyLines drainedState = []) ∧
      (drained { drainedState with lines := writingBack.lines } = true ∧
        dirtyLines { drainedState with lines := writingBack.lines } = [2]) ∧
      ({ writingBack with restart := .emptied 1 }.resetPin = false ∧
        { writingBack with restart := .emptied 1 }.engine = .inOperation ⟨9, codeRestart, []⟩ ∧
        { writingBack with restart := .emptied 1 }.egress = []) ∧ drained runningState = false := by decide +kernel

theorem test_meets_AcceptanceChecks :
    (∃ check, crc16 [0, 5, codeStatus] = check) ∧ (codeStatus, 0) ∈ codeTable ∧ (5 : Byte) ∉ tagsInUse State.reset ∧
      (9 : Byte) ∈ tagsInUse (current State.reset codeStatus []) ∧
      outstanding { State.reset with responses := List.replicate 7 ⟨1, codeStatus, .ok, []⟩ } < 8 ∧
      8 ≤ outstanding { State.reset with responses := List.replicate 8 ⟨1, codeStatus, .ok, []⟩ } :=
  ⟨⟨_, rfl⟩, by decide +kernel⟩

theorem test_meets_TransactionResults :
    (State.reset.resetPin = false ∧ State.reset.linkWaits = false ∧ State.reset.engine = .idle ∧
      State.reset.cmdQueue = [] ∧ acceptance State.reset 5 codeStatus [] (crc16 [0, 5, codeStatus]) = .accepted ∧
      acceptance State.reset 5 codeStatus [] (crc16 [0, 5, codeStatus] + 1) = .checkError) ∧
      ((current State.reset codeStatus []).engine ≠ .idle ∧ (current State.reset codeStatus []).linkWaits = false ∧
        acceptance (current State.reset codeStatus []) 5 codeStatus [] (crc16 [0, 5, codeStatus]) = .accepted) ∧
      { State.reset with linkWaits := true }.linkWaits = true ∧ (0xA5 : Byte) ∉ [0xA1#8, 0xA2#8, 0xA3#8, 0xA4#8] := by
  decide +kernel

/-- The bytes behind a COMMAND's check bytes. -/
theorem test_meets_TransactionResults_behind :
    ([acceptanceCode (some .full), 0, 0] : List Byte).length = 3 ∧
      ∀ k, k < 3 → ([acceptanceCode (some .full), 0, 0] : List Byte).getD k 0xFF =
        if k = 0 then acceptanceCode (some .full) else 0 := by decide

theorem test_meets_FrameCodes :
    ([] : List Byte).length ≤ 255 ∧ runningState.responses.length ≤ 0 ∧ runningState.notices.length ≤ 0 ∧
      1 < (at5 2).notices.length ∧ (2 : Nat) < ((1 : Byte).toNat + 2) ∧
      { runningState with responses := [⟨5, codeAdmit, .ok, [0, 3]⟩] }.responses = [⟨5, codeAdmit, .ok, [0, 3]⟩] ∧
      (0xA5 : Byte) ∉ [0xA1#8, 0xA2#8, 0xA3#8, 0xA4#8] := by decide +kernel

/-- Two notices, of which the second joined after the last transaction: the count may be 1 (`entered` 1) or 2. With none
waiting then, it may be 0. -/
theorem test_meets_ReadsRemoveTheHead :
    ({ at5 2 with noticesAtEnd := 1 }.resetPin = false ∧ { at5 2 with noticesAtEnd := 1 }.linkWaits = false ∧
      { at5 2 with noticesAtEnd := 1 }.notices = [note, note] ∧ 1 + 1 = { at5 2 with noticesAtEnd := 1 }.notices.length ∧
      { at5 2 with noticesAtEnd := 1 }.noticesAtEnd ≤ 1 ∧
      { at5 2 with noticesAtEnd := 1 }.notices.length < { at5 2 with noticesAtEnd := 1 }.noticesAtEnd + 2) ∧
      ((at5 2).noticesAtEnd = 0 ∧ (at5 2).notices.length = 2) ∧
      ({ State.reset with responses := [⟨1, codeStatus, .ok, []⟩] }.responses = [⟨1, codeStatus, .ok, []⟩] ∧
        { State.reset with responses := [⟨1, codeStatus, .ok, []⟩] }.responsesAtEnd ≤ 1) ∧
      State.reset.responses.length < State.reset.responsesAtEnd + 1 := by decide +kernel

/-- The SETUP parameters of section 9.2's form: capacity 4096, tick period 1, this sweep interval, guard 0. -/
def setupParams (interval : Nat) : List Byte :=
  beBytes 2 4096 ++ beBytes 2 1 ++ beBytes 2 interval ++ beBytes 2 0 ++ [0, 1]

theorem test_meets_SetupResult :
    Current (current State.reset codeSetup (setupParams 1)) ⟨9, codeSetup, setupParams 1⟩ codeSetup ∧
      (field16 (setupParams 0) 4).toNat < 1 ∧ ¬((field16 (setupParams 1) 4).toNat < 1) ∧
      setupAllowed State.reset ⟨4096, 1, 1, 0, .discard, .pass⟩ = true := by decide +kernel

/-- The bounds of SETUP's constraints (R142), and of RULE-WRITE's (R54). -/
theorem test_meets_bounds_of_setup_and_rules :
    setupAllowed State.reset ⟨4096, 1000, 65535, 4096, .pass, .discard⟩ = true ∧
      setupAllowed State.reset ⟨4096, 1001, 1, 0, .pass, .discard⟩ = false ∧
      setupAllowed State.reset ⟨4096, 0, 1, 0, .pass, .discard⟩ = false ∧
      setupAllowed State.reset ⟨4096, 1, 1, 4097, .pass, .discard⟩ = false ∧
      setupAllowed State.reset ⟨4097, 1, 1, 0, .pass, .discard⟩ = false ∧
      setupAllowed { State.reset with preserved := some ⟨8192, 1, 0⟩ } ⟨4096, 1, 1, 0, .pass, .discard⟩ = false ∧
      setupAllowed (withHead (cellOf 7 0)) ⟨8192, 1, 1, 0, .pass, .discard⟩ = true ∧
      ruleAllowed State.reset ⟨true, 0, 0, 10, 14, 0, 4096⟩ = true ∧
      ruleAllowed State.reset ⟨true, 0, 0, 11, 14, 0, 4096⟩ = false ∧
      ruleAllowed State.reset ⟨true, 0, 0, 23, 1, 4095, 1⟩ = true ∧
      ruleAllowed State.reset ⟨true, 0, 0, 24, 0, 0, 1⟩ = false ∧
      ruleAllowed State.reset ⟨true, 0, 0, 0, 15, 0, 1⟩ = false ∧
      ruleAllowed State.reset ⟨true, 0, 0, 0, 0, 0, 0⟩ = false := by decide +kernel

theorem test_meets_OperationsBegin :
    Current (current State.reset codeFormat []) ⟨9, codeFormat, []⟩ codeFormat ∧ State.reset.device = .config ∧
      { State.reset with preserved := some ⟨4096, 1, 0⟩ }.preserved ≠ none ∧ runningState.device = .running := by
  decide +kernel

/-- RULE-WRITE parameters for this rule number: enabled, every label, 14 bits from bit 0, this range length. -/
def ruleParams (number : Byte) (range : Nat) : List Byte :=
  [number, 1] ++ List.replicate 6 0 ++ [0, 14] ++ beBytes 2 0 ++ beBytes 2 range

theorem test_meets_StatusAndRuleCommands :
    Current (current runningState codeRuleWrite (ruleParams 15 4096)) ⟨9, codeRuleWrite, ruleParams 15 4096⟩
        codeRuleWrite ∧
      ruleAllowed runningState (paramRule ⟨9, codeRuleWrite, ruleParams 15 4096⟩) = true ∧
      ruleAllowed runningState (paramRule ⟨9, codeRuleWrite, ruleParams 15 4097⟩) = false ∧
      16 ≤ (byteAt (ruleParams 16 4096) 0).toNat ∧ (byteAt [15] 0).toNat = (15 : Fin 16).val := by decide +kernel

/-- ADMIT parameters for record 7 and label 7. -/
def admitParams (presence : Byte) (expiry : Nat) : List Byte := beBytes 2 7 ++ beBytes 3 7 ++ block0 presence expiry

/-- AMEND parameters for record 7 and generation 3, with this selection of the expiry. -/
def amendParams (generation : Nat) (expirySelection : Byte) (expiry : Nat) : List Byte :=
  beBytes 2 7 ++ beBytes 2 generation ++ List.replicate 6 0 ++ [expirySelection, 0, 0, 0] ++ block0 0 expiry

theorem test_meets_RefusalsWithoutClaim :
    (runningState.device ≠ .config ∧ (Instr.setup, codeSetup) ∈ allCommands) ∧
      4096 ≤ (field16 [0x10, 0x00] 0).toNat ∧ (Instr.hold, codeHold) ∈ recordCommands ∧
      7 < { runningState.setup with guard := 8 }.guard ∧
      (1 < (paramBlock (admitParams 0x0F 0) 5).presence.toNat ∧ (paramBlock (admitParams 0x02 0) 5).idleLimit = 0) ∧
      mapLabel runningState.rules (field24 (admitParams 0 0) 2) ≠ some 7 ∧
      2 < (byteAt (amendParams 3 3 0) (3 + 7)).toNat ∧ ¬(2 < (byteAt (amendParams 3 2 0) (3 + 7)).toNat) := by
  decide +kernel

theorem test_meets_RecordStepByStanding :
    (Instr.hold, codeHold) ∈ recordCommands ∧
      RecordCommand (current (holding active false) codeHold [0, 7, 0, 3]) ⟨9, codeHold, [0, 7, 0, 3]⟩ codeHold 7 ∧
      guardRefusal (holding active false) ⟨9, codeHold, [0, 7, 0, 3]⟩ = none ∧
      ResidentIn (current (holding active false) codeHold [0, 7, 0, 3]) 7 2 active false false false ∧
      (openEntry (withEntries 7) 7 .reading (.command false)).isSome = true ∧ standing (withEntries 7) 7 = .absent ∧
      8 ≤ (withEntries 8).missTable.length ∧
      paramRecord ⟨9, codeHold, [0, 7, 0, 3]⟩ = 7 := by decide +kernel

theorem test_meets_RecordStepByStanding_checks :
    PassesOwnChecks (current (holding active false) codeHold [0, 7, 0, 3]) ⟨9, codeHold, [0, 7, 0, 3]⟩ := by
  unfold PassesOwnChecks; decide +kernel

/-- Record 7 held as `r`, with the labels mapped to the records of their number. -/
def mapped (r : Record) : State := { holding r false with rules := (withHead (cellOf 7 0)).rules, now := 5 }

/-- The record step of an ADMIT on record 7, held as `r`. -/
def admitting (r : Record) (expiry : Nat) : State := current (mapped r) codeAdmit (admitParams 1 expiry)

/-- At now 5, with an expiry of 5 and of 6. -/
theorem test_meets_AdmitResult :
    ∀ expiry ∈ [5, 6],
      ∀ r ∈ [{ Record.blank with generation := 3 }, active, { active with state := .held },
          { active with state := .expired }, faultedCopy 1 true .empty .fill false],
        RecordCommand (admitting r expiry) ⟨9, codeAdmit, admitParams 1 expiry⟩ codeAdmit 7 ∧
          admitRefusal (admitting r expiry) ⟨9, codeAdmit, admitParams 1 expiry⟩ = none ∧
          ResidentIn (admitting r expiry) 7 2 r false false false ∧
          (paramBlock (admitParams 1 expiry) 5).presence.getLsbD 0 = true ∧
          ((paramBlock (admitParams 1 expiry) 5).expiry.toNat ≤ (admitting r expiry).now.toNat ↔ expiry = 5) := by
  decide +kernel

/-- That the command is an ADMIT and its own checks pass is all that `PassesOwnChecks` asks of it. -/
theorem test_meets_AdmitResult_checks :
    PassesOwnChecks (admitting active 6) ⟨9, codeAdmit, admitParams 1 6⟩ := by
  unfold PassesOwnChecks; decide +kernel

/-- The record step of an AMEND on record 7, held as `r`. -/
def amending (r : Record) (generation expiry : Nat) : State :=
  current (mapped r) codeAmend (amendParams generation 1 expiry)

/-- At now 5, with an expiry of 5 and of 6, and with the record's generation 3 and another. -/
theorem test_meets_AmendResult :
    ∀ expiry ∈ [5, 6], ∀ generation ∈ [3, 4],
      ∀ r ∈ [{ Record.blank with generation := 3 }, active, { active with state := .expired },
          faultedCopy 3 true .empty .fill false],
        RecordCommand (amending r generation expiry) ⟨9, codeAmend, amendParams generation 1 expiry⟩ codeAmend 7 ∧
          amendRefusal (amending r generation expiry) ⟨9, codeAmend, amendParams generation 1 expiry⟩ = none ∧
          ResidentIn (amending r generation expiry) 7 2 r false false false ∧
          (field16 (amendParams generation 1 expiry) 2 = r.generation ↔ generation = 3) ∧
          byteAt (amendParams generation 1 expiry) (3 + 7) = 1 ∧
          ((paramBlock (amendParams generation 1 expiry) 14).expiry.toNat ≤ (amending r generation expiry).now.toNat ↔
            expiry = 5) := by decide +kernel

theorem test_meets_AmendResult_checks :
    PassesOwnChecks (amending active 3 6) ⟨9, codeAmend, amendParams 3 1 6⟩ := by
  unfold PassesOwnChecks; decide +kernel

/-- The parameters of HOLD, RELEASE, RETIRE, PIN and UNPIN for record 7. -/
def named7 (generation : Nat) : List Byte := beBytes 2 7 ++ beBytes 2 generation

theorem test_meets_HoldReleasePinUnpinResult :
    ∀ generation ∈ [3, 4], ∀ code ∈ [codeHold, codeRelease, codePin, codeUnpin],
      ∀ r ∈ [{ Record.blank with generation := 3 }, active, { active with state := .held },
          { active with state := .expired }, faultedCopy 3 true .empty .fill false],
        RecordCommand (current (mapped r) code (named7 generation)) ⟨9, code, named7 generation⟩ code 7 ∧
          (mapped r).setup.guard ≤ 7 ∧
          ResidentIn (current (mapped r) code (named7 generation)) 7 2 r false false false ∧
          pinnedCount (current (mapped r) code (named7 generation)) < 48 ∧
          (field16 (named7 generation) 2 = r.generation ↔ generation = 3) := by decide +kernel

theorem test_meets_RetireResult :
    ∀ generation ∈ [3, 4],
      ∀ r ∈ [{ Record.blank with generation := 3 }, active, faultedCopy 3 true .empty .fill false],
        RecordCommand (current (mapped r) codeRetire (named7 generation)) ⟨9, codeRetire, named7 generation⟩ codeRetire 7 ∧
          (mapped r).setup.guard ≤ 7 ∧
          ResidentIn (current (mapped r) codeRetire (named7 generation)) 7 2 r false false false ∧
          (field16 (named7 generation) 2 = r.generation ↔ generation = 3) := by decide +kernel

theorem test_meets_QueryResult :
    ∀ clear ∈ [0#8, 1#8],
      ∀ r ∈ [Record.blank, active, faultedCopy 3 true .empty .fill false],
        RecordCommand (current (mapped r) codeQuery [0, 7, clear]) ⟨9, codeQuery, [0, 7, clear]⟩ codeQuery 7 ∧
          ResidentIn (current (mapped r) codeQuery [0, 7, clear]) 7 2 r false false false ∧
          ((byteAt [0, 7, clear] 2).getLsbD 0 = true ↔ clear = 1) := by decide +kernel

/-- A flag byte with bit 0 alone, as an admitted record's has with the other five flags no. -/
theorem test_meets_QueryResult_flags :
    active.admitted = true ∧
      (∀ k, k < 8 → (1#8).getLsbD k = [true, false, false, false, false, false].getD k false) ∧
      ∀ k, k < 8 → (0#8).getLsbD k = [false, false, false, false, false].getD k false := by decide +kernel

/-- Record 7 in line 2, unpinned, and 48 other lines pinned. -/
def manyPinned : State :=
  { mapped active with
    lines := Vector.ofFn fun i =>
      if i.val = 2 then .valid 7 active false false false
      else .valid (100 + i.val) active false true (decide (16 ≤ i.val)) }

/-- A PIN where 48 lines are pinned. -/
theorem test_meets_pin_limit :
    RecordCommand (current manyPinned codePin (named7 3)) ⟨9, codePin, named7 3⟩ codePin 7 ∧
      48 ≤ pinnedCount manyPinned ∧ ResidentIn manyPinned 7 2 active false false false ∧
      field16 (named7 3) 2 = active.generation := by decide +kernel

theorem test_meets_WhatChangesLastingState :
    (∃ t, exec .tick runningState = .next t) ∧ isResetEvent .tick = false ∧ Instr.tick ≠ .ruleWrite := ⟨⟨_, rfl⟩, rfl, by decide⟩

theorem test_meets_DeviceStateTransitions :
    OperationAgrees (current State.reset codeFormat []) ∧
      ∃ t, exec .format (current State.reset codeFormat []) = .next t ∧ t.device = .formatting :=
  ⟨⟨rfl, rfl, rfl⟩, _, rfl, by decide +kernel⟩

/-- The reset state meets the invariants, and a step goes on from it with an event waiting. -/
theorem test_meets_invariants :
    Bounded State.reset ∧ Coherent State.reset ∧ Memory.wf State.reset.memory ∧
      ∃ t, step { State.reset with pending := [.tick] } = .next t :=
  ⟨by unfold Bounded; decide +kernel, ⟨⟨rfl, rfl, rfl⟩, fun h => by cases h⟩, by decide, _, rfl⟩

/-- Record memory with the image of record 7 alone, its state ACTIVE and every other bit 0. -/
def memory7 : Memory := ⟨[(896, 1)], []⟩

theorem memory7_word (w : Nat) : memory7.readWord w = if w = 112 then 1 else 0 := by
  have h (a : Nat) : memory7.readByte a = if a = 896 then 1 else 0 := by
    by_cases ha : a = 896 <;> simp [memory7, Memory.readByte, sparseGet, List.lookup, unwrittenByte, beq_eq_false_iff_ne.mpr, ha]
  by_cases hw : w = 112
  · subst hw; decide
  · simp only [Memory.readWord, h, if_neg hw, if_neg (show 8 * w ≠ 896 by omega), if_neg (show 8 * w + 1 ≠ 896 by omega),
      if_neg (show 8 * w + 2 ≠ 896 by omega), if_neg (show 8 * w + 3 ≠ 896 by omega),
      if_neg (show 8 * w + 4 ≠ 896 by omega), if_neg (show 8 * w + 5 ≠ 896 by omega),
      if_neg (show 8 * w + 6 ≠ 896 by omega), if_neg (show 8 * w + 7 ≠ 896 by omega)]
    decide

/-- A state that is not the reset state: a cell waits on the entry of record 7, whose line is FILLING and whose fill
read waits to be issued; a tick is next. -/
def waitingCell : State :=
  { runningState.setLine 2 (.filling 7) with
    missTable := [entry7 .reading false [.cell (cellOf 7 0)]]
    cacheQ := [.fill 7]
    occupancy := [7]
    memory := memory7
    cellsInside := 1
    ports := { PortCounters.zero with accepted := 1 }
    pending := [.tick] }

theorem waitingCell_copy (n : Nat) : currentCopy waitingCell n = none := by
  have hl : ∀ l ∈ waitingCell.lines.toList, copyNumber l = none := by decide +kernel
  have hf : (waitingCell.lines.toList.find? fun l => copyNumber l == some n) = none :=
    List.find?_eq_none.mpr fun l hm => by rw [hl l hm]; simp
  rw [currentCopy, hf]
  rfl

theorem waitingCell_line (i : Fin 64) : copyNumber (lineAt waitingCell.lines i) = none := by
  revert i; decide +kernel

theorem waitingCell_vacant (n : Nat) : VacantNow waitingCell n ↔ n ≠ 7 := by
  unfold VacantNow imageVacant
  rw [waitingCell_copy, show waitingCell.memory = memory7 from rfl, memory7_word]
  by_cases h : n = 7
  · subst h; decide
  · rw [if_neg (by omega)]; exact ⟨fun _ => h, fun _ => by decide⟩

theorem waitingCell_owed (k w : Nat) : owedCopy k (waitingCell.memory.readWord w) = .empty := by
  rw [show waitingCell.memory = memory7 from rfl, memory7_word]
  unfold owedCopy
  by_cases hw : w = 112 <;> by_cases hk : k = 0 <;> simp only [hw, hk, if_true, if_false] <;> decide

/-- In it every law of cells, entries, rooms, budgets, numbers and memory holds. -/
theorem test_meets_invariants_waiting :
    Coherent waitingCell ∧ Conserved waitingCell ∧ EntriesDistinct waitingCell ∧ Bounded waitingCell ∧
      BudgetsWithinDepth waitingCell ∧ NumbersExist waitingCell ∧ RecordsFit waitingCell ∧
      Memory.wf waitingCell.memory ∧ cellsHeld waitingCell = 1 :=
  ⟨⟨⟨rfl, rfl, rfl⟩, fun h => by cases h⟩, by unfold Conserved; decide +kernel, by unfold EntriesDistinct; decide +kernel,
    by unfold Bounded; decide +kernel, by unfold BudgetsWithinDepth; decide +kernel,
    by unfold NumbersExist RulesFit; decide +kernel, by unfold RecordsFit RulesFit; decide +kernel,
    by decide +kernel, by decide +kernel⟩

/-- And its copies and requests agree, -/
theorem test_meets_StoreStaysInAgreement : StoreAgrees waitingCell := by
  refine ⟨⟨fun i j n h => ?_, fun i n _ h => ?_⟩, ?_, ?_⟩
  · rw [waitingCell_line] at h; cases h
  · rw [waitingCell_line] at h; cases h
  · intro e he
    have : e = entry7 .reading false [.cell (cellOf 7 0)] := by simpa [waitingCell] using he
    subst this
    refine ⟨fun h => (by cases h), fun _ => ⟨.inl (by decide +kernel), by decide +kernel,
      fun _ => ⟨by decide +kernel, by decide +kernel⟩, fun h => (by cases h), fun h => (by cases h)⟩⟩
  · refine ⟨by decide +kernel, fun n h => ?_, by decide +kernel, fun n h => ?_, fun n h => ?_, fun n r h => ?_⟩
    · have hn : n = 7 := by simpa [fillsAsked, waitingCell, runningState, State.reset, State.setLine] using h
      subst hn
      exact ⟨entry7 .reading false [.cell (cellOf 7 0)], by simp [waitingCell], rfl, rfl, by decide +kernel⟩
    · simp [sweepsAsked, waitingCell, runningState, State.reset, State.setLine] at h
    · simp [sweepsAsked, waitingCell, runningState, State.reset, State.setLine] at h
    · simp [waitingCell, runningState, State.reset, State.setLine] at h

/-- and so do its Occupancy Map, -/
theorem test_meets_OccupancyLawIsKept : OccupancyAgrees waitingCell := by
  refine ⟨fun n _ => ?_, fun n h => ?_, fun i n r f p _ h => ?_⟩
  · rw [waitingCell_vacant]
    simp [waitingCell]
  · simp [waitingCell, runningState, State.reset, State.setLine] at h
  · have := waitingCell_line i
    rw [h] at this
    cases this

/-- and its owed-record count, -/
theorem test_meets_OwedCountIsKept : OwedAgrees waitingCell := by
  have ho (n : Nat) : owes waitingCell n = false := by
    unfold owes imageOwed
    rw [waitingCell_copy, waitingCell_owed]
    rfl
  refine ⟨?_, fun n _ _ => ho n, fun n k _ _ => ?_, fun i n r f p _ h => ?_⟩
  · rw [owing, List.countP_eq_zero.mpr fun n _ => by rw [ho n]; decide]
    exact Nat.zero_le _
  · rw [imageOwed, waitingCell_owed, waitingCell_owed]
  · have := waitingCell_line i
    rw [h] at this
    cases this

/-- and a step goes on from it, in RUNNING, with no word in error. -/
theorem test_meets_invariants_step :
    waitingCell.device = .running ∧
      ∃ t, step waitingCell = .next t ∧ t.device = .running ∧ ∀ w, errorCount (t.memory.errorAt w) = 0 :=
  ⟨rfl, _, rfl, by decide +kernel, fun w => (by decide : errorCount 0 = 0)⟩

/-- The last completion of a FORMAT pass, with memory that lists nothing. -/
theorem test_meets_OccupancyLawIsKept_format :
    (formatting 4095).resetPin = false ∧ (formatting 4095).inFlight = [.formatWrite 4095] ∧
      (formatting 4095).pass = .format 4096 ∧ (formatting 4095).engine = .inOperation ⟨9, codeFormat, []⟩ ∧
      4095 + 1 = (formatting 4095).setup.capacity ∧ (∀ i : Fin 64, lineAt (formatting 4095).lines i = .empty) ∧
      (formatting 4095).hold = .none ∧
      (∀ m, m < 4095 → ((formatting 4095).memory.readWord (16 * m)).extractLsb' 0 3 = 0) ∧
      ∃ t, exec .formatWriteComplete (formatting 4095) = .next t :=
  ⟨rfl, rfl, rfl, rfl, rfl, by decide +kernel, rfl, fun m _ => by
    simp [Memory.readWord, Memory.readByte, sparseGet, formatting, State.reset, unwrittenByte], _, rfl⟩

theorem memory7_vacant (s : State) (h : s.memory = memory7) (n : Nat) : imageVacant s n ↔ n ≠ 7 := by
  unfold imageVacant
  rw [h, memory7_word]
  by_cases hn : n = 7
  · subst hn; decide
  · rw [if_neg (by omega)]; exact ⟨fun _ => hn, fun _ => by decide⟩

theorem memory7_owed (s : State) (h : s.memory = memory7) (k w : Nat) :
    owedCopy k (s.memory.readWord w) = .empty := by
  rw [h, memory7_word]
  unfold owedCopy
  by_cases hw : w = 112 <;> by_cases hk : k = 0 <;> simp only [hw, hk, if_true, if_false] <;> decide

/-- A RESUME pass with its last read in flight, a repair of record 1 requested and record 7 found ACTIVE. -/
def resumingState : State :=
  { resuming (.resumeRead 4095) [(1, active)] with memory := memory7, occupancy := [1, 7] }

theorem resumingState_images : ImagesSound resumingState := fun n _ =>
  ⟨fun k _ => by rw [imageOwed, memory7_owed _ rfl, memory7_owed _ rfl],
    fun _ => by rw [imageOwed, memory7_owed _ rfl]; rfl⟩

/-- The premises of the RESUME pass: the agreement, and a state from which one begins. -/
theorem test_meets_PassesBringTheLaws_resume :
    ResumeAgrees resumingState ∧ OperationAgrees resumingState ∧
      (∃ t, step { resumingState with pending := [.resumeReadComplete []] } = .next t) ∧
      ∃ s t, s.device = .config ∧ StoreEmpty s ∧ RulesFit s ∧ ImagesSound s ∧ s.inFlight = [] ∧ s.occupancy = [] ∧
        exec .resume s = .next t ∧ t.device = .resuming := by
  refine ⟨⟨by unfold StoreEmpty; decide +kernel, by unfold RulesFit; decide +kernel, resumingState_images, 4096,
    ⟨1, 2, 3, 4, 5⟩, [(1, active)], rfl, by decide +kernel, ?_, by decide +kernel, by decide +kernel, by decide +kernel, ?_,
    ?_⟩, ⟨rfl, rfl, rfl⟩, ⟨_, rfl⟩,
    { current { State.reset with preserved := some ⟨4096, 1, 0⟩ } codeResume [] with memory := memory7 }, _, rfl,
    by unfold StoreEmpty; decide +kernel, by unfold RulesFit; decide +kernel,
    fun n _ => ⟨fun k _ => by rw [imageOwed, memory7_owed _ rfl, memory7_owed _ rfl],
      fun _ => by rw [imageOwed, memory7_owed _ rfl]; rfl⟩, rfl, rfl, rfl, by decide +kernel⟩
  · intro t ht
    have : t = .resumeRead 4095 := by simpa [resumingState, resuming] using ht
    exact .inl ⟨_, this⟩
  · intro n
    have hr : resumeReads resumingState = [4095] := rfl
    have hp : repairs resumingState = [(1, active)] := rfl
    have ho : resumingState.occupancy = [1, 7] := rfl
    unfold foundVacant
    rw [hr, hp, ho]
    by_cases h1 : n = 1
    · subst h1
      show _ ↔ 1 < 4096 ∧ 1 ∉ [4095] ∧ ¬active.state = .vacant
      decide
    · have : [(1, active)].find? (fun x => x.1 == n) = none := by simp [Ne.symm h1]
      rw [this]
      show _ ↔ n < 4096 ∧ n ∉ [4095] ∧ ¬imageVacant resumingState n
      rw [memory7_vacant _ rfl]
      simp only [List.mem_cons, List.not_mem_nil, or_false, h1, false_or]
      omega
  · have : ∀ n, foundOwing resumingState n = false := fun n => by
      have hp : repairs resumingState = [(1, active)] := rfl
      unfold foundOwing
      rw [hp]
      by_cases h1 : n = 1
      · subst h1; decide
      · have : [(1, active)].find? (fun x => x.1 == n) = none := by simp [Ne.symm h1]
        rw [this]
        show (!(imageOwed resumingState n).isEmpty) = false
        rw [imageOwed, memory7_owed _ rfl]; rfl
    rw [List.countP_eq_zero.mpr fun n _ => by rw [this n]; simp]
    rfl

/-- The premises of the FORMAT pass: the agreement before the last completion, and a state from which one begins. -/
theorem test_meets_PassesBringTheLaws_format :
    FormatAgrees (formatting 4095) ∧ OperationAgrees (formatting 4095) ∧
      (∃ t, step { formatting 4095 with pending := [.formatWriteComplete] } = .next t) ∧
      ∃ t, exec .format (current State.reset codeFormat []) = .next t ∧ t.device = .formatting :=
  ⟨⟨by unfold StoreEmpty; decide +kernel, by unfold RulesFit; decide +kernel, 4095, 4096, rfl, by decide,
      by decide +kernel, rfl, fun n k _ _ => by
        simp [Memory.readWord, Memory.readByte, sparseGet, formatting, State.reset, unwrittenByte]⟩,
    ⟨rfl, rfl, rfl⟩, ⟨_, rfl⟩, _, rfl, by decide +kernel⟩

end Sys2Proof.Tests
end

/-! SUPPORT. What one event can do to the Record Store, said once: the changes of a copy, the store's own operations, and
the sequences of them that the claims, the answers to requesters and the visits are. -/

namespace Sys2Proof.Proofs

open Sys2Proof Sys2Proof.Machine Sys2Proof.Safety Sys2Proof.Laws

/-! ### A change of one copy, with the Occupancy Map and the owed-record count that follow it (R13, R18) -/

/-- What a copy adds to the number of records that owe a notice. -/
def due (r : Record) : Nat := if r.owed.isEmpty then 0 else 1

/-- Record `n`'s copy changes from `r` to `q` between `s` and `t`, and the Occupancy Map and the owed-record count follow:
if they agreed with `r` they agree with `q`. -/
structure CopyChange (n : Nat) (s : State) (r : Record) (t : State) (q : Record) : Prop where
  others : ∀ m, m ≠ n → (m ∈ t.occupancy ↔ m ∈ s.occupancy)
  vacant : (r.state = .vacant ↔ n ∉ s.occupancy) → (q.state = .vacant ↔ n ∉ t.occupancy)
  clear : (r.state = .vacant → due r = 0) → q.state = .vacant → due q = 0
  count : (r.state = .vacant → due r = 0) → due r ≤ s.owedCount → t.owedCount + due r = s.owedCount + due q

namespace CopyChange

variable {n : Nat} {s t u : State} {r q p : Record}

theorem trans (h1 : CopyChange n s r t q) (h2 : CopyChange n t q u p) : CopyChange n s r u p where
  others m hm := (h2.others m hm).trans (h1.others m hm)
  vacant h := h2.vacant (h1.vacant h)
  clear h := h2.clear (h1.clear h)
  count h hle := by
    have hfirst := h1.count h hle
    have hsecond := h2.count (h1.clear h) (by omega)
    omega

/-- A copy whose owed set is as it was and that is VACANT as it was. -/
theorem of_same (ho : t.occupancy = s.occupancy) (hc : t.owedCount = s.owedCount)
    (hs : q.state = .vacant ↔ r.state = .vacant) (hq : q.owed = r.owed) : CopyChange n s r t q := by
  have hd : due q = due r := by rw [due, due, hq]
  exact ⟨fun m _ => by rw [ho], fun h => by rw [hs, ho, h], fun h hv => hd ▸ h (hs.1 hv), fun _ _ => by omega⟩

theorem refl (s : State) (r : Record) : CopyChange n s r s r := of_same rfl rfl Iff.rfl rfl

/-- A copy that comes to owe nothing, the count following. -/
theorem of_emptied (ho : t.occupancy = s.occupancy) (hs : q.state = r.state)
    (hempty : r.owed.isEmpty = true → q.owed.isEmpty = true)
    (hc : t.owedCount = if !r.owed.isEmpty && q.owed.isEmpty then s.owedCount - 1 else s.owedCount) :
    CopyChange n s r t q := by
  have hdue : due r = 0 → due q = 0 := by
    unfold due
    cases hr : r.owed.isEmpty <;> simp_all
  refine ⟨fun m _ => by rw [ho], fun h => by rw [hs, ho, h], fun h hv => hdue (h (hs ▸ hv)), fun _ hle => ?_⟩
  unfold due at hle ⊢
  rw [hc]
  cases hr : r.owed.isEmpty <;> cases hq : q.owed.isEmpty <;> simp_all

end CopyChange

theorem isEmpty_add (o : OwedSet) (k : OwedKind) : (o.add k).isEmpty = false := by
  cases k <;> simp [OwedSet.add, OwedSet.isEmpty]

/-- A notice offered about a record that is not VACANT: the kind enters the queue, or is owed and counted (R119, R13). -/
theorem offerNotice_change {r : Record} (h : r.state ≠ .vacant) (s : State) (n : Nat) (k : OwedKind) (x : Notice) :
    CopyChange n s r (offerNotice s r k x).1 (offerNotice s r k x).2 := by
  unfold offerNotice
  split
  · exact .of_same rfl rfl Iff.rfl rfl
  · refine ⟨fun m _ => Iff.rfl, id, fun _ hv => absurd hv h, fun _ _ => ?_⟩
    simp only [due, isEmpty_add]
    cases r.owed.isEmpty <;> simp

/-- The end of an admission: VACANT with nothing owed, the map entry cleared and the count following (R113, R153). -/
theorem endAdmission_change (s : State) (n : Nat) {r q : Record} (hs : q.state = .vacant) (ho : q.owed = .empty) :
    CopyChange n s r (endAdmission s n r) q := by
  have hq : due q = 0 := by simp [due, ho, OwedSet.isEmpty, OwedSet.empty]
  refine ⟨fun m hm => by simp [endAdmission, occClear, hm, countEmptied], fun _ => by simp [endAdmission, occClear, hs],
    fun _ _ => hq, fun _ hle => ?_⟩
  rw [hq]
  unfold due at hle ⊢
  show (if r.owed.isEmpty then s.owedCount else s.owedCount - 1) + _ = _
  cases hr : r.owed.isEmpty <;> simp_all

theorem mem_occSet (o : List Nat) (n m : Nat) : m ∈ occSet o n ↔ m = n ∨ m ∈ o := by
  induction o with
  | nil => simp [occSet]
  | cons a t ih =>
    simp only [occSet]
    split
    · simp
    · split
      · rename_i h
        subst h
        simp
      · simp only [List.mem_cons, ih]
        tauto

/-- An admission: a VACANT record's map entry is set (R148). -/
theorem admitted_change (s : State) (n : Nat) {r q : Record} (hr : r.state = .vacant) (hs : q.state ≠ .vacant)
    (ho : q.owed = .empty) : CopyChange n s r { s with occupancy := occSet s.occupancy n } q := by
  have hq : due q = 0 := by simp [due, ho, OwedSet.isEmpty, OwedSet.empty]
  exact ⟨fun m hm => by simp [mem_occSet, hm], fun _ => by simp [mem_occSet, hs], fun _ hv => absurd hv hs,
    fun h _ => by rw [hq, h hr]⟩

/-! ### What claims and visits make of a copy -/

theorem evaluate_notice {r : Record} {label : BitVec 24} {now : Tick} (h : (evaluate r label now).notice ≠ none) :
    (evaluate r label now).copy.state ≠ .vacant := by
  unfold evaluate at h ⊢
  cases hs : r.state <;> simp only [hs] at h ⊢
  case vacant => exact absurd rfl h
  case faulted => exact absurd rfl h
  case held => split at h <;> exact absurd rfl h
  case expired => split at h <;> exact absurd rfl h
  case active =>
    split at h
    · rw [if_pos (by assumption)]
      split
      · simp [Record.discardState]
      · unfold judgeContract Record.decideOutcome Record.applyAction
        dsimp only
        repeat' split
        all_goals simp [Record.refresh, Record.passCell, hs]
    · exact absurd rfl h

/-- An evaluation leaves the owed set, and a record is VACANT after it exactly when it was before. -/
theorem evaluate_same (r : Record) (label : BitVec 24) (now : Tick) :
    (evaluate r label now).copy.owed = r.owed ∧
      ((evaluate r label now).copy.state = .vacant ↔ r.state = .vacant) := by
  unfold evaluate
  cases hs : r.state <;> simp only
  case vacant => simp [hs]
  case faulted => simp [hs]
  case held => split <;> simp [Record.discardState, hs]
  case expired => split <;> simp [Record.discardState, hs]
  case active =>
    split
    · split
      · simp [Record.discardState]
      · unfold judgeContract Record.decideOutcome Record.applyAction
        dsimp only
        repeat' split
        all_goals simp [Record.refresh, Record.passCell, hs]
    · simp [hs]

/-- An evaluation that does not go past step 2 leaves the copy and raises no notice (R28). -/
theorem evaluate_untouched {r : Record} {label : BitVec 24} {now : Tick} (h : (evaluate r label now).touched = false) :
    (evaluate r label now).copy = r ∧ (evaluate r label now).notice = none := by
  unfold evaluate at h ⊢
  cases hs : r.state <;> simp only [hs] at h ⊢
  case vacant => simp
  case faulted => simp
  case held => split at h <;> simp_all
  case expired => split at h <;> simp_all
  case active =>
    split at h
    · split at h
      · simp at h
      · unfold judgeContract at h
        dsimp only at h
        split at h <;> simp at h
    · rw [if_neg (by assumption)]
      simp

theorem offerJudged_change (s : State) (n : Nat) (r : Record) (label : BitVec 24) :
    CopyChange n s r (offerJudged s n (evaluate r label s.now)).1 (offerJudged s n (evaluate r label s.now)).2 := by
  obtain ⟨ho, hs⟩ := evaluate_same r label s.now
  have hsame : CopyChange n s r s (evaluate r label s.now).copy := .of_same rfl rfl hs ho
  unfold offerJudged
  split
  · exact hsame
  · rename_i hn
    exact hsame.trans (offerNotice_change (evaluate_notice (by rw [hn]; simp)) _ _ _ _)

theorem readWithin_counts (s : State) (r : Option ReadWithin) :
    (readWithin s r).owedCount = s.owedCount ∧ (readWithin s r).occupancy = s.occupancy := by
  unfold readWithin readNotice linkEnded
  repeat' split
  all_goals exact ⟨rfl, rfl⟩

/-- Moving owed kinds leaves the count and the map as they were, and a set that owes nothing owes nothing after it. -/
theorem moveKinds_counts (n : Nat) (l : List (OwedKind × Option ReadWithin)) (p : State × Record) :
    (moveKinds n l p).1.owedCount = p.1.owedCount ∧ (moveKinds n l p).1.occupancy = p.1.occupancy ∧
      (p.2.owed.isEmpty = true → (moveKinds n l p).2.owed.isEmpty = true) := by
  induction l generalizing p with
  | nil => exact ⟨rfl, rfl, id⟩
  | cons x t ih =>
    obtain ⟨k, read⟩ := x
    obtain ⟨hcount, hmap⟩ := readWithin_counts p.1 read
    unfold moveKinds
    split
    · rename_i hk
      have hnot : p.2.owed.isEmpty = true → False := fun he => by simp [(isEmpty_iff _).1 he k] at hk
      dsimp only
      split
      · obtain ⟨h1, h2, -⟩ := ih (pushNotice (readWithin p.1 read)
          ⟨owedBody p.2 k, n, p.2.generation, (readWithin p.1 read).now⟩, { p.2 with owed := p.2.owed.remove k })
        exact ⟨h1.trans hcount, h2.trans hmap, fun he => (hnot he).elim⟩
      · exact ⟨hcount, hmap, fun he => (hnot he).elim⟩
    · exact ih p

theorem moveOwed_change (v : VisitEvents) (s : State) (n : Nat) (r : Record) :
    CopyChange n s r (moveOwed v s n r).1 (moveOwed v s n r).2 := by
  obtain ⟨hcount, hmap, hempty⟩ := moveKinds_counts n (movesWith v) (s, r)
  obtain ⟨o, ho⟩ := (moveKinds_frame n (movesWith v) (s, r)).2
  have hstate : (moveOwed v s n r).2.state = r.state := by
    unfold moveOwed
    rw [ho]
  refine .of_emptied ?_ hstate hempty ?_ <;> unfold moveOwed <;> dsimp only
  · split <;> exact hmap
  · split <;> simp only [hcount]

theorem visitExpiry_change (s : State) (n : Nat) (r : Record) :
    CopyChange n s r (visitExpiry s n r).1 (visitExpiry s n r).2 := by
  unfold visitExpiry
  split
  · rename_i h
    have hr : r.state ≠ .vacant := fun hv => by simp [hv] at h
    have hexpired : CopyChange n s r s { r with state := .expired } := .of_same rfl rfl (by simp [hr]) rfl
    exact hexpired.trans (offerNotice_change (by simp) _ _ _ _)
  · exact .refl s r

theorem visitIdle_change (read : Option ReadWithin) (s : State) (n : Nat) (r : Record) :
    CopyChange n s r (visitIdle read s n r).1 (visitIdle read s n r).2 := by
  obtain ⟨hcount, hmap⟩ := readWithin_counts s read
  have hread : CopyChange n s r (readWithin s read) r := .of_same hmap hcount Iff.rfl rfl
  unfold visitIdle
  split
  · rename_i hidle
    have hr : r.state ≠ .vacant := fun hv => by
      unfold Record.isIdle at hidle
      split at hidle <;> simp [hv] at hidle
    dsimp only
    split
    · split
      · have hpush (x : Notice) : CopyChange n s r (pushNotice (readWithin s read) x) r :=
          hread.trans (.of_same rfl rfl Iff.rfl rfl)
        exact (hpush _).trans (endAdmission_change _ n rfl rfl)
      · exact hread
    · exact hread.trans ((offerNotice_change hr _ _ _ _).trans (.of_same rfl rfl Iff.rfl rfl))
  · exact .refl s r

/-- The visit actions change a copy with its map entry and the owed-record count (R110 to R114). -/
theorem visitActions_change (v : VisitEvents) (s : State) (n : Nat) (r : Record) :
    CopyChange n s r (visitActions v s n r).1 (visitActions v s n r).2 := by
  unfold visitActions
  split
  · exact .refl s r
  · exact moveOwed_change v s n r
  · have hrefresh : CopyChange n s r s (r.refresh s.now) := .of_same rfl rfl Iff.rfl rfl
    exact hrefresh.trans ((visitExpiry_change _ _ _).trans ((visitIdle_change _ _ _ _).trans (moveOwed_change _ _ _ _)))

/-- A command's claim changes a copy with its map entry and the owed-record count (R148 to R157). -/
theorem claimOf_change (s : State) (m : Met) (c : Command) :
    CopyChange m.number s m.copy (claimOf s m c).state (claimOf s m c).copy := by
  have same (o : OutcomeCode) : CopyChange m.number s m.copy (m.unchanged s o).state (m.unchanged s o).copy :=
    .refl s m.copy
  have moved {st : RecState} (h1 : m.copy.state ≠ .vacant) (h2 : st ≠ .vacant) :
      CopyChange m.number s m.copy (m.withState s st).state (m.withState s st).copy :=
    .of_same rfl rfl ⟨fun h => absurd h h2, fun h => absurd h h1⟩ rfl
  unfold claimOf
  split
  · unfold claimAdmit
    split
    · exact same _
    split
    · exact same _
    · rename_i h
      split
      · exact same _
      · exact admitted_change s m.number (by simpa using h) (by simp [admittedRecord]) rfl
  split
  · unfold claimAmend
    split
    · exact same _
    split
    · exact same _
    split
    · exact same _
    · rename_i h
      have hv : m.copy.state ≠ .vacant := by simpa using h
      split
      · exact same _
      · refine .of_same rfl rfl ?_ rfl
        simp only [amendedRecord]
        split <;> simp [hv]
  split
  · unfold claimHold
    split
    · exact same _
    split
    · exact same _
    · split
      case h_1 h => exact moved (by simp [h]) (by simp)
      all_goals exact same _
  split
  · unfold claimRelease
    split
    · exact same _
    split
    · exact same _
    · split
      case h_2 h => exact moved (by simp [h]) (by simp)
      all_goals exact same _
  split
  · unfold claimRetire
    split
    · exact endAdmission_change s m.number rfl rfl
    split
    · exact same _
    split
    · exact same _
    · exact endAdmission_change s m.number rfl rfl
  split
  · unfold claimQuery
    refine .of_same rfl rfl ?_ ?_ <;> dsimp only <;> repeat' split
    all_goals simp [Record.cleared, Record.refresh]
  split
  · unfold claimPin
    repeat' split
    all_goals exact .refl s m.copy
  split
  · unfold claimUnpin
    repeat' split
    all_goals exact .refl s m.copy
  · exact same _

end Sys2Proof.Proofs

namespace Sys2Proof.Proofs

open Sys2Proof Sys2Proof.Machine Sys2Proof.Safety Sys2Proof.Laws

/-! ### What an operation of the Record Store leaves alone -/

/-- An entry but for its waiters. -/
def bare (e : Entry) : Entry := { e with waiters := [] }

/-- The line is VALID. -/
def validLine : Line → Bool
  | .valid _ _ _ _ _ => true
  | _ => false

/-- A Miss Table of which waiters were served or have joined: the entries left are the same but for their waiters, and one
that was freed had a VALID target line. -/
structure Served (ls : Vector Line 64) (t u : List Entry) : Prop where
  sub : (u.map bare).Sublist (t.map bare)
  left : ∀ e ∈ t, bare e ∈ u.map bare ∨ validLine (lineAt ls e.target) = true

theorem Served.refl (ls : Vector Line 64) (t : List Entry) : Served ls t t :=
  ⟨.refl _, fun _ he => .inl (List.mem_map_of_mem he)⟩

/-- A record number that the part holds, or one of the record body as long as the rules lie within it. -/
def Reached (s : State) (n : Nat) : Prop := RulesFit s → n ∈ numbersHeld s ∨ n < s.setup.capacity

/-- The record numbers that the part holds, place by place. -/
theorem mem_numbersHeld {s : State} {n : Nat} :
    n ∈ numbersHeld s ↔
      (∃ i, n ∈ lineNumbers (lineAt s.lines i)) ∨ (∃ e ∈ s.missTable, e.number = n) ∨ s.hold.number = some n ∨
        (∃ q ∈ s.cacheQ, n ∈ requestNumbers q) ∨ (∃ q, s.sweepReq = some q ∧ n ∈ sweepNumbers q) ∨
        (∃ x ∈ s.inFlight, n ∈ flightNumbers x) ∨ (∃ x, s.stage = some x ∧ n ∈ stageNumbers x) ∨ n ∈ s.occupancy ∨
        n ∈ passNumbers s.pass ∨ n ∈ engineNumbers s.engine := by
  have hlines : (∃ l ∈ s.lines.toList, n ∈ lineNumbers l) ↔ ∃ i, n ∈ lineNumbers (lineAt s.lines i) := by
    constructor
    · rintro ⟨l, hl, hn⟩
      obtain ⟨i, hi, rfl⟩ := List.getElem_of_mem hl
      exact ⟨⟨i, by simpa using hi⟩, by simpa [lineAt] using hn⟩
    · rintro ⟨i, hn⟩
      exact ⟨_, by simp [lineAt], hn⟩
  simp only [numbersHeld, List.mem_append, List.mem_flatMap, List.mem_map, Option.mem_toList, hlines, or_assoc]

theorem Reached.of_stage {s : State} (x : StageCell) (h : s.stage = some x) (n : Nat) (hn : n ∈ stageNumbers x) :
    Reached s n :=
  fun _ => .inl (mem_numbersHeld.2 (.inr (.inr (.inr (.inr (.inr (.inr (.inl ⟨x, h, hn⟩))))))))

theorem Reached.of_engine {s : State} (n : Nat) (h : n ∈ engineNumbers s.engine) : Reached s n :=
  fun _ => .inl (mem_numbersHeld.2 (by tauto))

theorem Reached.of_capacity {s : State} {n : Nat} (h : n < s.setup.capacity) : Reached s n := fun _ => .inr h

/-- The Record Store, the record memory and the device state are as they were, but for waiters: an entry has served or
taken some; and the stage and the Maintenance Engine hold no number that the part did not reach. -/
structure Quiet (s t : State) : Prop where
  device : t.device = s.device := by rfl
  setup : t.setup = s.setup := by rfl
  rules : RulesFit s → RulesFit t := by exact id
  lines : t.lines = s.lines := by rfl
  table : Served s.lines s.missTable t.missTable := by exact Served.refl _ _
  occupancy : t.occupancy = s.occupancy := by rfl
  hold : t.hold = s.hold := by rfl
  cacheQ : t.cacheQ = s.cacheQ := by rfl
  sweepReq : t.sweepReq = s.sweepReq := by rfl
  inFlight : t.inFlight = s.inFlight := by rfl
  pass : t.pass = s.pass := by rfl
  owedCount : t.owedCount = s.owedCount := by rfl
  memory : t.memory = s.memory := by rfl
  stage : ∀ x, t.stage = some x → ∀ n ∈ stageNumbers x, Reached s n := by
    intro _ h _ hn; refine Reached.of_stage _ ?_ _ hn; exact h
  engine : ∀ n ∈ engineNumbers t.engine, Reached s n := by
    intro _ h; refine Reached.of_engine _ ?_; exact h

/-- One operation of the Record Store within an event: none of them writes record memory. -/
inductive StoreOp (s : State) : State → Prop
  | quiet {t : State} (h : Quiet s t) : StoreOp s t
  /-- a claim on a VALID line (R63) -/
  | claimed {i : Fin 64} {n : Nat} {r q : Record} {d f p d' f' p' : Bool} {t : State}
      (line : lineAt s.lines i = .valid n r d f p) (clean : d' = false → d = false ∧ q = r)
      (change : CopyChange n s r t q) :
      StoreOp s
        { s with
          lines := s.lines.set i.val (.valid n q d' f' p') i.isLt, occupancy := t.occupancy, owedCount := t.owedCount }
  /-- an entry opened for a record that no line holds and no entry names (R71) -/
  | opened {n : Nat} {w : Waiter} {t : State} (named : standing s n ≠ .named)
      (resident : ∀ i, standing s n ≠ .resident i) (reached : Reached s n)
      (h : openEntry s n (standing s n).phase w = some t) : StoreOp s t
  /-- a visit begun through the Sweep Hold (R108) -/
  | sweepBegun {n : Nat} (absent : standing s n = .absent) (occupied : n ∈ s.occupancy) (idle : s.hold = .none) :
      StoreOp s { s with hold := .reading n, sweepReq := some (.read n) }

/-- The operations of the Record Store within an event, one after the other. -/
def Acts : State → State → Prop := Relation.ReflTransGen StoreOp

theorem Acts.refl (s : State) : Acts s s := Relation.ReflTransGen.refl

theorem StoreOp.acts {s t : State} (h : StoreOp s t) : Acts s t := Relation.ReflTransGen.single h

theorem Acts.trans {s t u : State} (h1 : Acts s t) (h2 : Acts t u) : Acts s u := Relation.ReflTransGen.trans h1 h2

theorem Quiet.acts {s t : State} (h : Quiet s t) : Acts s t := (StoreOp.quiet h).acts

theorem Acts.quiet {s t u : State} (h : Acts s t) (h2 : Quiet t u) : Acts s u := h.trans h2.acts

/-! ### Waiters -/

theorem served_updateEntry {ls : Vector Line 64} (t : List Entry) (n : Nat) (f : Entry → Option Entry)
    (hsome : ∀ e e', f e = some e' → bare e' = bare e)
    (hnone : ∀ e, findEntry t n = some e → f e = none → validLine (lineAt ls e.target) = true) :
    Served ls t (updateEntry t n f) := by
  cases hf : findEntry t n with
  | none =>
    rw [updateEntry_of_none (findEntry_none.1 hf)]
    exact .refl ls t
  | some e =>
    obtain ⟨before, after, hat⟩ := entryAt_of_findEntry hf
    rw [updateEntry_of_entryAt hat]
    obtain ⟨rfl, -, -⟩ := hat
    cases hfe : f e with
    | some e' =>
      refine ⟨by simp [hsome e e' hfe], fun x hx => .inl ?_⟩
      simpa [hsome e e' hfe] using List.mem_map_of_mem (f := bare) hx
    | none =>
      refine ⟨by simp, fun x hx => ?_⟩
      rcases List.mem_append.1 hx with h | h
      · exact .inl (List.mem_map_of_mem (List.mem_append_left _ h))
      · rcases List.mem_cons.1 h with rfl | h
        · exact .inr (hnone x hf hfe)
        · exact .inl (List.mem_map_of_mem (List.mem_append_right _ h))

theorem served_joinEntry (ls : Vector Line 64) (t : List Entry) (n : Nat) (w : Waiter) :
    Served ls t (joinEntry t n w) := by
  refine served_updateEntry t n _ (fun e e' h => ?_) (fun e _ h => by cases h)
  cases h
  rfl

theorem served_popWaiter {ls : Vector Line 64} {t : List Entry} {n : Nat} {e : Entry} (h : findEntry t n = some e)
    (hl : validLine (lineAt ls e.target) = true) : Served ls t (popWaiter t n) := by
  refine served_updateEntry t n _ (fun x x' hx => ?_) (fun x hx _ => ?_)
  · split at hx <;> cases hx
    rfl
  · rw [h] at hx
    cases hx
    exact hl

/-! ### Claims -/

/-- A claim on a VALID line, with what a visit or a notice may change beside it. -/
theorem acts_of_claim {k : Nat} {s t : State} {i : Fin 64} {n : Nat} {r q : Record} {d f p d' : Bool}
    (line : lineAt s.lines i = .valid n r d f p) (clean : d' = false → d = false ∧ q = r)
    (change : CopyChange n s r t q) (frame : VisitOnly k s t) (f' p' : Bool) :
    Acts s (t.setLine i (.valid n q d' f' p')) := by
  obtain ⟨j, new, out, responses, notices, occupancy, owed, -, rfl⟩ := frame
  exact (StoreOp.claimed line clean change).acts.quiet { }

theorem answered_quiet (s : State) (c : Command) (o : OutcomeCode) (p : List Byte) : Quiet s (answered s c o p) := by
  unfold answered
  split <;> exact { engine := fun n hn => by simp [engineNumbers] at hn }

theorem answer_quiet (s : State) (c : Command) (o : OutcomeCode) : Quiet s (answer s c o) :=
  answer_eq_answered s c o ▸ answered_quiet s c o []

theorem complete_quiet (s : State) (c : Command) (o : OutcomeCode) (p : List Byte) : Quiet s (complete s c o p) :=
  complete_eq_answered s c o p ▸ answered_quiet s c o p

theorem settleCell_quiet (s : State) (c : Cell) (v : Verdict) : Quiet s (settleCell s c v) := by
  cases v <;> exact { }

theorem claimCell_acts {s : State} {i : Fin 64} {n : Nat} {r : Record} {d f p : Bool}
    (h : lineAt s.lines i = .valid n r d f p) (c : Cell) : Acts s (claimCell s i n r d p c) := by
  unfold claimCell
  refine (acts_of_claim h (fun hd => ?_) (offerJudged_change s n r (cellLabel c)) (offerJudged_frame s n _).1.visit
    true p).quiet (settleCell_quiet _ _ _)
  simp only [Bool.or_eq_false_iff] at hd
  obtain ⟨hcopy, hnotice⟩ := evaluate_untouched hd.2
  exact ⟨hd.1, by simp [offerJudged, hnotice, hcopy]⟩

theorem claimCommand_acts {s : State} {i : Fin 64} {n : Nat} {r : Record} {d f p : Bool}
    (h : lineAt s.lines i = .valid n r d f p) (m : Met) (hn : m.number = n) (hr : m.copy = r) (c : Command) :
    Acts s (claimCommand s i m d c) := by
  subst hn hr
  rw [claimCommand_eq]
  refine (acts_of_claim h (fun hd => ?_) (claimOf_change s m c) (claimOf_frame s m c).visit true _).quiet
    (answered_quiet _ _ _ _)
  simpa using hd

/-! ### Serving waiters and answering requesters -/

theorem popWaiter_quiet {s : State} {n m : Nat} {e : Entry} {r : Record} {d f p : Bool}
    (he : findEntry s.missTable n = some e) (hl : lineAt s.lines e.target = .valid m r d f p) :
    Quiet s { s with missTable := popWaiter s.missTable n } where
  table := served_popWaiter he (by rw [hl]; rfl)

theorem serveCommand_acts (s : State) (n : Nat) : Acts s (serveCommand s n) := by
  unfold serveCommand
  split
  · exact .refl _
  · rename_i e he
    split
    · rename_i hl _
      exact (popWaiter_quiet he hl).acts.trans (claimCommand_acts (by exact hl) _ rfl rfl _)
    · exact .refl _

theorem serveCell_acts (s : State) (n : Nat) : Acts s (serveCell s n) := by
  unfold serveCell
  split
  · exact .refl _
  · rename_i e he
    split
    · rename_i hl
      exact ((popWaiter_quiet he hl).acts.trans (claimCell_acts (by exact hl) _)).trans (serveCommand_acts _ n)
    · exact .refl _

theorem tryOpen_acts {s t : State} {n : Nat} {w : Waiter} (hnamed : standing s n ≠ .named)
    (hres : ∀ i, standing s n ≠ .resident i) (hn : Reached s n) (h : tryOpen s n w = some t) : Acts s t :=
  (StoreOp.opened hnamed hres hn (tryOpen_eq h).2).acts

theorem setStage_none_quiet (s : State) : Quiet s { s with stage := none } := { stage := fun _ h => by cases h }

theorem discardCell_acts (s : State) (x : Discard) : Acts s (discardCell { s with stage := none } x) :=
  (setStage_none_quiet s).acts.quiet { }

theorem overflowCell_acts {s : State} {n : Nat} (hn : Reached s n) (c : Cell) : Acts s (overflowCell s c n) := by
  unfold overflowCell
  split
  · exact discardCell_acts s _
  · refine Quiet.acts { stage := fun x hx m hm => ?_ }
    cases hx
    simp only [stageNumbers, Option.mem_toList, Option.some.injEq] at hm
    exact hm ▸ hn

theorem offerCell_acts {s : State} {n : Nat} (hn : Reached s n) (c : Cell) : Acts s (offerCell s c n) := by
  unfold offerCell
  split
  · split
    · exact Quiet.acts { table := served_joinEntry _ _ _ _, stage := fun _ h => by cases h }
    · exact discardCell_acts s _
  · refine Quiet.acts { stage := fun x hx m hm => ?_ }
    cases hx
    simp only [stageNumbers, List.mem_singleton] at hm
    exact hm ▸ hn
  · split
    · split
      · rename_i hnamed hres _ _ t ht
        exact (tryOpen_acts hnamed hres hn ht).quiet (setStage_none_quiet t)
      · exact overflowCell_acts hn c
    · exact overflowCell_acts hn c

theorem recordStep_acts {s : State} {c : Command} (hn : Reached s (paramRecord c)) :
    Acts s (recordStep s c (paramRecord c)) := by
  have waits : ∀ n ∈ engineNumbers (.waitingForEntry c), Reached s n := fun n h => by
    rw [engineNumbers, List.mem_singleton] at h
    exact h ▸ hn
  unfold recordStep
  split
  · exact Quiet.acts { table := served_joinEntry _ _ _ _, engine := fun _ h => by simp [engineNumbers] at h }
  · split
    · rename_i hl
      have hhit : Quiet s (countHit s) := { }
      exact hhit.acts.trans (claimCommand_acts (s := countHit s) hl _ rfl rfl c)
    · exact .refl _
  · rename_i hnamed hres
    split
    · rename_i t ht
      exact (tryOpen_acts hnamed hres hn ht).quiet { engine := fun _ h => by simp [engineNumbers] at h }
    · exact Quiet.acts { engine := waits }

theorem recordCommand_acts (s : State) (c : Command) (o : Option OutcomeCode) : Acts s (recordCommand s c o) := by
  unfold recordCommand
  split
  · split
    · rename_i hlt
      split
      · exact (answer_quiet _ _ _).acts
      · exact recordStep_acts (.of_capacity hlt)
    · exact (answer_quiet _ _ _).acts
  · exact (answer_quiet _ _ _).acts

theorem retry_acts {s : State} {c : Command} (h : s.engine = .waitingForEntry c) :
    Acts s (recordStep s c (paramRecord c)) :=
  recordStep_acts (.of_engine _ (by simp [h, engineNumbers]))

/-! ### Sweep steps -/

theorem engineClaim_acts (s : State) : Acts s (engineClaim s) := by
  unfold engineClaim
  split
  · exact .refl _
  · unfold engineStep
    split
    · split
      · exact recordCommand_acts _ _ _
      · exact .refl _
    · rename_i h
      exact retry_acts h
    · exact .refl _

theorem claimsWithin_acts (k : Nat) (s : State) : Acts s (claimsWithin k s) := by
  induction k generalizing s with
  | zero => exact .refl _
  | succ k ih => exact (engineClaim_acts s).trans (ih _)

theorem visitLine_acts (v : VisitEvents) (s : State) (i : Fin 64) : Acts s (visitLine v s i) := by
  unfold visitLine
  split
  · rename_i hl
    refine acts_of_claim hl (fun hd => ?_) (visitActions_change v s _ _) (visitActions_frame v s _ _) _ _
    simpa using hd
  · exact .refl _

theorem nextOccupied_mem {o : List Nat} {p n : Nat} (h : nextOccupied o p = some n) : n ∈ o := by
  unfold nextOccupied at h
  split at h
  · rename_i m hm
    cases h
    exact (List.mem_filter.1 (List.min?_mem hm)).1
  · exact List.min?_mem h

theorem beginVisit_acts {s : State} (hidle : s.hold = .none) (v : VisitEvents) : Acts s (beginVisit v s) := by
  unfold beginVisit
  split
  · exact .refl _
  · rename_i n hn
    have hpos : Quiet s { s with sweepPos := n } := { }
    dsimp only
    split
    · exact hpos.acts
    · exact (hpos.acts.trans (claimsWithin_acts _ _)).trans (visitLine_acts _ _ _)
    · exact hpos.acts
    · exact hpos.acts
    · rename_i habsent
      exact hpos.acts.trans (StoreOp.sweepBegun habsent (nextOccupied_mem hn) hidle).acts

theorem takeDueStep_acts (v : VisitEvents) (s : State) : Acts s (takeDueStep v s) := by
  unfold takeDueStep takeSweepStep
  split
  · exact Quiet.acts { }
  · rename_i h
    have hidle : s.hold = .none := by
      cases hh : s.hold <;> simp [visitInProgress, hh, SweepHold.number] at h ⊢
    have hzero : Quiet s { s with interval := 0 } := { }
    exact hzero.acts.trans (beginVisit_acts (s := { s with interval := 0 }) hidle v)

end Sys2Proof.Proofs

namespace Sys2Proof.Proofs

open Sys2Proof Sys2Proof.Machine Sys2Proof.Safety Sys2Proof.Laws

/-! ### The memory path and the device-wide operations -/

/-- A fill read completes, its entry's waiters not yet served (R73). -/
def landed (s : State) (n : Nat) (i : Fin 64) (damage : Damage) : State :=
  let read := readImage s n .fill (!occupied s n) damage
  let offer := offerFaulted read.1 n read.2
  { offer.1.setLine i (.valid n offer.2 read.2.dirty false false) with
    missTable := updateEntry offer.1.missTable n fun e =>
      some
        { e with
          fillDone := true
          waiters := if read.2.becameFaulted then e.waiters.map Waiter.meetFault else e.waiters } }

theorem filled_eq (s : State) (n : Nat) (i : Fin 64) (damage : Damage) :
    filled s n i damage = serveCommand (landed s n i damage) n := rfl

/-- A sweep write completes, a remembered step not yet taken (R109). -/
def released (s : State) (n : Nat) (copy : Record) : State :=
  requestReady s
    { writeImage s n copy with hold := .none, missTable := advancePhase s.missTable n .waitSweep }

theorem sweepWritten_eq (s : State) (n : Nat) (copy : Record) (v : VisitEvents) :
    sweepWritten s n copy v =
      if (released s n copy).remembered then beginVisit v { released s n copy with remembered := false }
      else released s n copy := rfl

/-- The issue of a store's request, and the completions of the store's transactions. -/
inductive MemoryOp (s : State) : State → Prop
  | issued (pass : s.pass = .none) : MemoryOp s (issueNext s)
  | evicted {i : Fin 64} {old reserved : Nat} {copy : Record} {rest : List Txn}
      (flight : s.inFlight = .writeBack i :: rest) (line : lineAt s.lines i = .evicting old copy reserved)
      (number : old < Config.maxRecords) : MemoryOp s (evictionWritten { s with inFlight := rest } i old copy reserved)
  | landed {n : Nat} {e : Entry} {rest : List Txn} (damage : Damage) (flight : s.inFlight = .fill n :: rest)
      (entry : findEntry s.missTable n = some e) (number : n < Config.maxRecords) :
      MemoryOp s (landed { s with inFlight := rest } n e.target damage)
  | swept {n : Nat} {rest : List Txn} (damage : Damage) (during : VisitEvents)
      (flight : s.inFlight = .sweepRead n :: rest) (number : n < Config.maxRecords) :
      MemoryOp s (sweepVisited { s with inFlight := rest } n damage during)
  | released {n m : Nat} {copy : Record} {rest : List Txn} (flight : s.inFlight = .sweepWrite n :: rest)
      (hold : s.hold = .writing m copy) (number : n < Config.maxRecords) :
      MemoryOp s (released { s with inFlight := rest } n copy)

/-- What an event does beside the store's own operations: resets, SETUP, and the device-wide operations. -/
inductive DeviceOp (s : State) : State → Prop
  | reset (asserted linkWaits : Bool) (memory : Memory) :
      DeviceOp s { resetDevice s asserted linkWaits with memory := memory }
  | configured {p : SetupParams} (device : s.device = .config) (allowed : setupAllowed s p = true) :
      DeviceOp s { s with setup := p }
  | formatBegun {c : Command} (device : s.device = .config) :
      DeviceOp s { s with device := .formatting, pass := .format 0, engine := .inOperation c }
  | resumeBegun {c : Command} (device : s.device = .config) :
      DeviceOp s
        { s with
          device := .resuming, pass := .resume 0 ⟨0, 0, 0, 0, 0⟩ [], owedCount := 0, engine := .inOperation c }
  | restartBegun {c : Command} (device : s.device = .running) :
      DeviceOp s { s with device := .restarting, restart := .draining, remembered := false, engine := .inOperation c }
  | passIssued (pass : s.pass ≠ .none) : DeviceOp s (issueNext s)
  | formatWritten {n next : Nat} {rest : List Txn} (flight : s.inFlight = .formatWrite n :: rest)
      (pass : s.pass = .format next) : DeviceOp s (formatWritten { s with inFlight := rest } n)
  | resumeRead {n next : Nat} {counts : StateCounts} {writes : List (Nat × Record)} {rest : List Txn}
      (damage : Damage) (flight : s.inFlight = .resumeRead n :: rest) (pass : s.pass = .resume next counts writes) :
      DeviceOp s (resumeJudged { s with inFlight := rest } n next counts writes damage)
  | resumeWritten {n : Nat} {copy : Record} {rest : List Txn} (flight : s.inFlight = .resumeWrite n copy :: rest) :
      DeviceOp s (finishResume (writeImage { s with inFlight := rest } n copy))
  | restartWritten {i : Fin 64} {n requested : Nat} {copy : Record} {d f p : Bool} {rest : List Txn}
      (flight : s.inFlight = .writeBack i :: rest) (line : lineAt s.lines i = .valid n copy d f p)
      (restart : s.restart = .writingBack requested) :
      DeviceOp s (restartWritten { s with inFlight := rest } i n copy f p requested)
  | writeBacksRequested (drained : drained s = true) : DeviceOp s (requestWriteBacks s)
  | restartEnded {requested : Nat} (restart : s.restart = .emptied requested) : DeviceOp s (endRestart s requested)

/-- How an event begins: with nothing, with one operation of the memory path, or with one that is the whole device's. -/
inductive Opening (s : State) : State → Prop
  | nothing : Opening s s
  | memory {t : State} (h : MemoryOp s t) : Opening s t
  | device {t : State} (h : DeviceOp s t) : Opening s t

/-- What an event does to the Record Store: its opening, then operations of the store. -/
def Taken (s t : State) : Prop := ∃ u, Opening s u ∧ Acts u t

theorem Acts.taken {s t : State} (h : Acts s t) : Taken s t := ⟨s, .nothing, h⟩

theorem Quiet.taken {s t : State} (h : Quiet s t) : Taken s t := h.acts.taken

theorem Taken.refl (s : State) : Taken s s := (Acts.refl s).taken

theorem MemoryOp.taken {s t : State} (h : MemoryOp s t) : Taken s t := ⟨t, .memory h, .refl t⟩

theorem DeviceOp.taken {s t : State} (h : DeviceOp s t) : Taken s t := ⟨t, .device h, .refl t⟩

/-! ### The cell path -/

/-- A number that a rule gives lies within the rule's range, and so within the capacity (R49, R60). -/
theorem mapLabel_lt {s : State} {label : BitVec 24} {n : Nat} (hfit : RulesFit s)
    (h : mapLabel s.rules label = some n) : n < s.setup.capacity := by
  obtain ⟨r, hr, hm⟩ := List.exists_of_findSome?_eq_some h
  obtain ⟨k, hk, rfl⟩ := List.getElem_of_mem hr
  have hrange := hfit ⟨k, by simpa using hk⟩
  unfold Rule.maps at hm
  split at hm
  · rename_i hc
    rw [Bool.and_eq_true, decide_eq_true_eq] at hc
    cases hm
    have hidx := hc.2
    simp only [Vector.getElem_toList] at hidx ⊢
    exact lt_of_lt_of_le (Nat.add_lt_add_left hidx _) hrange
  · cases hm

theorem unadmittedCell_quiet {s : State} {number : Option Nat} (hn : ∀ n, number = some n → Reached s n) (c : Cell)
    (x : Discard) : Quiet s (unadmittedCell s c x number) := by
  unfold unadmittedCell
  split
  · exact { }
  · refine { stage := fun y hy m hm => ?_ }
    cases hy
    exact hn m (by simpa [stageNumbers] using hm)

theorem headLeft_acts (s : State) (c : Cell) : Acts s (headLeft s c) := by
  unfold headLeft
  split
  · unfold classifyCell
    split
    · exact (unadmittedCell_quiet (fun n h => by cases h) c _).acts
    · rename_i n hn
      have hreached : Reached s n := fun hfit => .inr (mapLabel_lt hfit hn)
      split
      · exact offerCell_acts hreached c
      · exact (unadmittedCell_quiet (fun m h => by cases h; exact hreached) c _).acts
  · exact Quiet.acts { }

theorem grantStage_acts (s : State) : Acts s (grantStage s) := by
  unfold grantStage
  split
  · exact .refl s
  · exact (setStage_none_quiet s).acts.quiet { }
  · rename_i c n hstage
    have hn : Reached s n := .of_stage _ hstage n (by simp [stageNumbers])
    split
    · split
      · rename_i hl
        have hhit : Quiet s (countHit { s with stage := none }) := { stage := fun _ h => by cases h }
        exact hhit.acts.trans (claimCell_acts (by exact hl) c)
      · exact .refl s
    · exact offerCell_acts hn c

/-! ### The management link -/

theorem takeNext_quiet (s : State) : Quiet s (takeNext s) := by
  unfold takeNext
  split
  · exact { engine := fun n hn => by simp [engineNumbers] at hn }
  · exact { }

theorem readResponse_quiet (s : State) (entered more : Nat) : Quiet s (readResponse s entered more) := by
  unfold readResponse
  split <;> exact { }

theorem readNotice_quiet (s : State) (entered more : Nat) : Quiet s (readNotice s entered more) := by
  unfold readNotice
  split <;> exact { }

theorem acceptCommand_acts (s : State) (c : Command) : Acts s (acceptCommand s c) :=
  (Quiet.acts { }).quiet (takeNext_quiet _)

theorem execCommand_acts {tag code : Byte} {params : List Byte} {check : BitVec 16} {s t : State} {more : Nat}
    (h : execCommand tag code params check s more = .next t) : Acts s t := by
  refine onLink_elim h (.refl s) ?_
  split
  · exact .refl s
  · dsimp only
    split
    · exact (Quiet.acts { }).trans (acceptCommand_acts _ _)
    · exact Quiet.acts { }

theorem execTransactionAbandon_quiet {what : Abandoned} {s t : State}
    (h : execTransactionAbandon what s = .next t) : Quiet s t := by
  cases h
  split
  · exact { }
  · split
    · exact { }
    · split <;> exact { }

/-! ### The commands that name no record -/

theorem setupEffect_taken (s : State) (c : Command) : Taken s (setupEffect s c) := by
  unfold setupEffect
  split
  · rename_i hdev
    split
    · exact (answer_quiet _ _ _).taken
    · rename_i p _
      split
      · rename_i hp
        have hpos : Quiet { s with setup := p } { s with setup := p, sweepPos := p.capacity - 1 } := { }
        exact ⟨_, .device (.configured hdev hp), hpos.acts.quiet (answer_quiet _ _ _)⟩
      · exact (answer_quiet _ _ _).taken
  · exact (answer_quiet _ _ _).taken

/-- A rule within the limits of R54 leaves every rule within the capacity. -/
theorem rulesFit_set {s : State} {k : Nat} {r : Rule} (hk : k < 16) (hr : ruleAllowed s r = true) (h : RulesFit s) :
    RulesFit { s with rules := s.rules.set k r hk } := by
  intro j
  have hle : r.recordBase + r.rangeLength ≤ s.setup.capacity := by
    unfold ruleAllowed at hr
    simp only [Bool.and_eq_true, decide_eq_true_eq] at hr
    exact hr.2
  show ((s.rules.set k r hk)[j.val]).recordBase + ((s.rules.set k r hk)[j.val]).rangeLength ≤ s.setup.capacity
  rw [Vector.getElem_set]
  split
  · exact hle
  · exact h j

theorem ruleWriteEffect_acts (s : State) (c : Command) : Acts s (ruleWriteEffect s c) := by
  unfold ruleWriteEffect
  split
  · split
    · split
      · exact (Quiet.acts { rules := rulesFit_set _ (by assumption) }).quiet (answer_quiet _ _ _)
      · exact (answer_quiet _ _ _).acts
    · exact (answer_quiet _ _ _).acts
  · exact (answer_quiet _ _ _).acts

theorem ruleReadEffect_acts (s : State) (c : Command) : Acts s (ruleReadEffect s c) := by
  unfold ruleReadEffect
  split
  · split
    · exact (complete_quiet _ _ _ _).acts
    · exact (answer_quiet _ _ _).acts
  · exact (answer_quiet _ _ _).acts

theorem statusEffect_acts (s : State) (c : Command) : Acts s (statusEffect s c) := by
  unfold statusEffect
  split
  · exact (complete_quiet _ _ _ _).acts
  · exact (answer_quiet _ _ _).acts

theorem formatEffect_taken (s : State) (c : Command) : Taken s (formatEffect s c) := by
  unfold formatEffect
  split
  · exact (DeviceOp.formatBegun (by assumption)).taken
  · exact (answer_quiet _ _ _).taken

theorem resumeEffect_taken (s : State) (c : Command) : Taken s (resumeEffect s c) := by
  unfold resumeEffect
  split
  · rename_i h
    exact (DeviceOp.resumeBegun h.1).taken
  · exact (answer_quiet _ _ _).taken

theorem restartEffect_taken (s : State) (c : Command) : Taken s (restartEffect s c) := by
  unfold restartEffect
  split
  · exact (DeviceOp.restartBegun (by assumption)).taken
  · exact (answer_quiet _ _ _).taken

/-! ### The completions -/

theorem execMemoryIssue_taken {s t : State} (h : execMemoryIssue s = .next t) : Taken s t := by
  refine whileRunning_elim h (.refl s) ?_
  split
  · by_cases hp : s.pass = .none
    · exact (MemoryOp.issued hp).taken
    · exact (DeviceOp.passIssued hp).taken
  · exact .refl s

/-- The completion of a transaction: nothing under RESET, else the record's words exist and the effect is taken. -/
theorem completing_taken {s t u : State} {n : Nat} (h : completing n s u = .next t)
    (hu : n < Config.maxRecords → Taken s u) : Taken s t := by
  unfold completing at h
  split at h
  · cases h
    exact .refl s
  · split at h
    · rename_i hn
      cases h
      exact hu hn
    · cases h

theorem execWriteBackComplete_taken {s t : State} (h : execWriteBackComplete s = .next t) : Taken s t := by
  unfold execWriteBackComplete at h
  split at h
  · rename_i hflight
    split at h
    · rename_i hline
      exact completing_taken h fun hn => (MemoryOp.evicted hflight hline hn).taken
    · rename_i hline hrestart
      exact completing_taken h fun _ => (DeviceOp.restartWritten hflight hline hrestart).taken
    · cases h
      exact .refl s
  · cases h
    exact .refl s

theorem execFillReadComplete_taken {damage : Damage} {s t : State} (h : execFillReadComplete damage s = .next t) :
    Taken s t := by
  unfold execFillReadComplete at h
  split at h
  · rename_i hflight
    split at h
    · rename_i hentry
      exact completing_taken h fun hn => ⟨_, .memory (.landed damage hflight hentry hn), serveCommand_acts _ _⟩
    · cases h
      exact .refl s
  · cases h
    exact .refl s

theorem execSweepReadComplete_taken {damage : Damage} {during : VisitEvents} {s t : State}
    (h : execSweepReadComplete damage s during = .next t) : Taken s t := by
  unfold execSweepReadComplete at h
  split at h
  · rename_i hflight
    exact completing_taken h fun hn => (MemoryOp.swept damage during hflight hn).taken
  · cases h
    exact .refl s

theorem sweepWritten_acts (s : State) (n : Nat) (copy : Record) (v : VisitEvents) :
    Acts (released s n copy) (sweepWritten s n copy v) := by
  rw [sweepWritten_eq]
  split
  · have hforget : Quiet (released s n copy) { released s n copy with remembered := false } := { }
    refine hforget.acts.trans (beginVisit_acts ?_ v)
    rfl
  · exact .refl _

theorem execSweepWriteComplete_taken {during : VisitEvents} {s t : State}
    (h : execSweepWriteComplete s during = .next t) : Taken s t := by
  unfold execSweepWriteComplete at h
  split at h
  · rename_i hflight hhold
    exact completing_taken h fun hn => ⟨_, .memory (.released hflight hhold hn), sweepWritten_acts _ _ _ _⟩
  · cases h
    exact .refl s

theorem execFormatWriteComplete_taken {s t : State} (h : execFormatWriteComplete s = .next t) : Taken s t := by
  unfold execFormatWriteComplete at h
  split at h
  · rename_i hflight hpass
    exact completing_taken h fun _ => (DeviceOp.formatWritten hflight hpass).taken
  · cases h
    exact .refl s

theorem execResumeReadComplete_taken {damage : Damage} {s t : State}
    (h : execResumeReadComplete damage s = .next t) : Taken s t := by
  unfold execResumeReadComplete at h
  split at h
  · rename_i hflight hpass
    exact completing_taken h fun _ => (DeviceOp.resumeRead damage hflight hpass).taken
  · cases h
    exact .refl s

theorem execResumeWriteComplete_taken {s t : State} (h : execResumeWriteComplete s = .next t) : Taken s t := by
  unfold execResumeWriteComplete at h
  split at h
  · rename_i hflight
    exact completing_taken h fun _ => (DeviceOp.resumeWritten hflight).taken
  · cases h
    exact .refl s

theorem execRestartWriteBackRequest_taken {s t : State} (h : execRestartWriteBackRequest s = .next t) :
    Taken s t := by
  refine whileRunning_elim h (.refl s) ?_
  split
  · exact (DeviceOp.writeBacksRequested (by assumption)).taken
  · exact .refl s

theorem execRestartComplete_taken {s t : State} (h : execRestartComplete s = .next t) : Taken s t := by
  refine whileRunning_elim h (.refl s) ?_
  split
  · rename_i hrestart _
    exact (DeviceOp.restartEnded hrestart).taken
  · exact .refl s

/-! ### Time and resets -/

theorem execTick_acts {s t : State} (h : execTick s = .next t) : Acts s t := by
  refine whileRunning_elim h (.refl s) ?_
  have hdue : Acts s (if stepDue s then takeDueStep .none s else s) := by
    split
    · exact takeDueStep_acts _ s
    · exact .refl s
  exact hdue.quiet { }

theorem execSweepStep_acts {during : VisitEvents} {s t : State} (h : execSweepStep s during = .next t) :
    Acts s t := by
  refine whileRunning_elim h (.refl s) ?_
  split
  · exact takeDueStep_acts _ s
  · exact .refl s

theorem execResetPinAssert_taken {words : Nat} {s t : State} (h : execResetPinAssert words s = .next t) :
    Taken s t := by
  cases h
  split
  · exact .refl s
  · exact (DeviceOp.reset _ _ _).taken

theorem execResetPinDeassert_taken {low : Bool} {s t : State} (h : execResetPinDeassert low s = .next t) :
    Taken s t := by
  cases h
  split
  · exact (DeviceOp.reset false low s.memory).taken
  · exact .refl s

/-! ### Every event -/

/-- A record command's checks and record step (R138, R139). -/
theorem recordEvent_taken {s t : State} {code : Byte} {refusal : Command → Option OutcomeCode}
    (h : onCurrent s code (fun c => recordCommand s c (refusal c)) = .next t) : Taken s t :=
  onCurrent_elim h (.refl s) fun c _ _ => (recordCommand_acts s c _).taken

/-- What every event does to the Record Store. -/
theorem exec_taken {c : Instr} {s t : State} (h : exec c s = .next t) : Taken s t := by
  cases c with
  | powerOn low sram errors =>
    cases h
    exact (DeviceOp.reset false low _).taken
  | resetPinAssert words => exact execResetPinAssert_taken h
  | resetPinDeassert low => exact execResetPinDeassert_taken h
  | tick => exact (execTick_acts h).taken
  | sweepStep during => exact (execSweepStep_acts h).taken
  | ingressTransferBegin first => exact whileRunning_elim h (.refl s) (Quiet.taken { })
  | cellAccept rest =>
    refine whileRunning_elim h (.refl s) ?_
    split
    · exact .refl s
    · exact Quiet.taken { }
  | ingressHeadLeaves =>
    refine whileRunning_elim h (.refl s) ?_
    split
    · exact ((Quiet.acts { }).trans (headLeft_acts _ _)).taken
    · exact .refl s
  | egressPlaceGrant requester =>
    refine whileRunning_elim h (.refl s) ?_
    split
    · split
      · exact (grantStage_acts s).taken
      · exact (serveCell_acts s _).taken
    · exact .refl s
  | cellEmit =>
    refine whileRunning_elim h (.refl s) ?_
    split
    · exact .refl s
    · exact Quiet.taken { }
  | memoryIssue => exact execMemoryIssue_taken h
  | writeBackComplete => exact execWriteBackComplete_taken h
  | fillReadComplete damage => exact execFillReadComplete_taken h
  | sweepReadComplete damage during => exact execSweepReadComplete_taken h
  | sweepWriteComplete during => exact execSweepWriteComplete_taken h
  | formatWriteComplete => exact execFormatWriteComplete_taken h
  | resumeReadComplete damage => exact execResumeReadComplete_taken h
  | resumeWriteComplete => exact execResumeWriteComplete_taken h
  | restartWriteBackRequest => exact execRestartWriteBackRequest_taken h
  | restartComplete => exact execRestartComplete_taken h
  | command tag code params check more => exact (execCommand_acts h).taken
  | responseRead entered more => exact onLink_elim h (.refl s) (readResponse_quiet s _ _).taken
  | noticeRead entered more => exact onLink_elim h (.refl s) (readNotice_quiet s _ _).taken
  | linkStatus more => exact onLink_elim h (.refl s) (Quiet.taken { })
  | voidTransaction first more =>
    refine onLink_elim h (.refl s) ?_
    split
    · exact .refl s
    · exact Quiet.taken { }
  | transactionAbandon what => exact (execTransactionAbandon_quiet h).taken
  | setup => exact onCurrent_elim h (.refl s) fun c _ _ => setupEffect_taken s c
  | format => exact onCurrent_elim h (.refl s) fun c _ _ => formatEffect_taken s c
  | resume => exact onCurrent_elim h (.refl s) fun c _ _ => resumeEffect_taken s c
  | restart => exact onCurrent_elim h (.refl s) fun c _ _ => restartEffect_taken s c
  | status => exact onCurrent_elim h (.refl s) fun c _ _ => (statusEffect_acts s c).taken
  | ruleWrite => exact onCurrent_elim h (.refl s) fun c _ _ => (ruleWriteEffect_acts s c).taken
  | ruleRead => exact onCurrent_elim h (.refl s) fun c _ _ => (ruleReadEffect_acts s c).taken
  | admitRecord => exact recordEvent_taken h
  | amend => exact recordEvent_taken h
  | hold => exact recordEvent_taken h
  | release => exact recordEvent_taken h
  | retire => exact recordEvent_taken h
  | query => exact recordEvent_taken h
  | pin => exact recordEvent_taken h
  | unpin => exact recordEvent_taken h
  | commandStepRetry =>
    refine whileRunning_elim h (.refl s) ?_
    split
    · rename_i he
      exact (retry_acts he).taken
    · exact .refl s
  | partialCellDropped first =>
    refine whileRunning_elim h (.refl s) ?_
    split
    · exact .refl s
    · exact Quiet.taken { }

/-- What a step does to the Record Store, the queue of waiting events apart. -/
theorem step_taken {s t : State} (h : step s = .next t) : ∃ l, Taken { s with pending := l } t := by
  unfold step at h
  split at h
  · cases h
    exact ⟨s.pending, .refl s⟩
  · rename_i rest _
    exact ⟨rest, exec_taken h⟩

end Sys2Proof.Proofs

/-! SUPPORT. The agreement of copies, entries and requests (R2, R61, R70, R72, R82, R83), said of the roles that the lines
play, and what each operation of the Record Store does to it. -/

namespace Sys2Proof.Proofs

open Sys2Proof Sys2Proof.Machine Sys2Proof.Safety Sys2Proof.Laws

/-! ### The role of a line -/

/-- The record for which a line is reserved. -/
def reservedFor : Line → Option Nat
  | .evicting _ _ n => some n
  | .filling n => some n
  | _ => none

/-- The record whose copy a line holds, and the record for which it is reserved: the line state with its numbers. -/
def roleOf (l : Line) : Option Nat × Option Nat := (copyNumber l, reservedFor l)

/-- The role of line `i`. -/
def role (s : State) (i : Fin 64) : Option Nat × Option Nat := roleOf (lineAt s.lines i)

@[simp] theorem roleOf_valid (n : Nat) (r : Record) (d f p : Bool) : roleOf (.valid n r d f p) = (some n, none) := rfl
@[simp] theorem roleOf_evicting (m : Nat) (r : Record) (n : Nat) : roleOf (.evicting m r n) = (some m, some n) := rfl
@[simp] theorem roleOf_filling (n : Nat) : roleOf (.filling n) = (none, some n) := rfl
@[simp] theorem roleOf_empty : roleOf .empty = (none, none) := rfl

theorem holds_iff (l : Line) (n : Nat) : l.holds n = true ↔ roleOf l = (some n, none) := by
  cases l <;> simp [Line.holds]

theorem evicts_iff (l : Line) (n : Nat) : l.evicts n = true ↔ ∃ m, roleOf l = (some n, some m) := by
  cases l <;> simp [Line.evicts]

theorem isFilling_iff (l : Line) : l.isFilling = true ↔ ∃ m, roleOf l = (none, some m) := by
  cases l <;> simp [Line.isFilling]

theorem validLine_iff (l : Line) : validLine l = true ↔ ∃ n, roleOf l = (some n, none) := by
  cases l <;> simp [validLine]

theorem empty_iff (l : Line) : l = .empty ↔ roleOf l = (none, none) := by
  cases l <;> simp

theorem reserved_iff (l : Line) (n : Nat) :
    (l = .filling n ∨ ∃ old r, l = .evicting old r n) ↔ (roleOf l).2 = some n := by
  cases l <;> simp

theorem reservedLine_iff (l : Line) : reservedLine l = true ↔ ∃ n, (roleOf l).2 = some n := by
  cases l <;> simp [reservedLine]

theorem roleOf_referenced {l m : Line} (h : SameButReferenced l m) : roleOf m = roleOf l := by
  rcases h with rfl | rfl
  · rfl
  · cases l <;> rfl

/-! ### The agreement, in roles -/

/-- `EntryAgrees`, in roles. -/
structure EntrySound (s : State) (e : Entry) : Prop where
  done : e.fillDone = true → role s e.target = (some e.number, none)
  reserved : e.fillDone = false → (role s e.target).2 = some e.number
  unheld : e.fillDone = false → ∀ i, role s i ≠ (some e.number, none)
  reading : e.fillDone = false → e.phase = .reading →
    s.hold.number ≠ some e.number ∧ ∀ i m, role s i ≠ (some e.number, some m)
  waitEvict : e.fillDone = false → e.phase = .waitEvict → ∃ i m, role s i = (some e.number, some m)
  waitSweep : e.fillDone = false → e.phase = .waitSweep → s.hold.number = some e.number

theorem entrySound_iff (s : State) (e : Entry) : EntrySound s e ↔ EntryAgrees s e := by
  have hno {b : Bool} {p : Prop} (h : b = true ↔ p) : b = false ↔ ¬p := by rw [← h, Bool.not_eq_true]
  simp only [EntryAgrees, holds_iff, evicts_iff, reserved_iff, hno (holds_iff _ _), hno (evicts_iff _ _), not_exists]
  constructor
  · rintro ⟨h1, h2, h3, h4, h5, h6⟩
    exact ⟨h1, fun h => ⟨h2 h, h3 h, h4 h, h5 h, h6 h⟩⟩
  · rintro ⟨h1, h⟩
    exact ⟨h1, fun hf => (h hf).1, fun hf => (h hf).2.1, fun hf => (h hf).2.2.1, fun hf => (h hf).2.2.2.1,
      fun hf => (h hf).2.2.2.2⟩

/-- The fill that a cache request asks for. -/
def fillOf : CacheReq → Option Nat
  | .fill n => some n
  | .writeBack _ => none

/-- The fill read in flight. -/
def flyingFill : Txn → Option Nat
  | .fill n => some n
  | _ => none

/-- The sweep request in flight. -/
def flyingSweep : Txn → Option SweepReq
  | .sweepRead n => some (.read n)
  | .sweepWrite n => some (.write n)
  | _ => none

theorem fillsAsked_eq (s : State) :
    fillsAsked s = s.cacheQ.filterMap fillOf ++ s.inFlight.filterMap flyingFill := rfl

theorem sweepsAsked_eq (s : State) : sweepsAsked s = s.sweepReq.toList ++ s.inFlight.filterMap flyingSweep := rfl

/-- The entry waits for the fill read of record `n`, which may be asked for (R72). -/
def Awaits (s : State) (e : Entry) (n : Nat) : Prop :=
  e.number = n ∧ e.fillDone = false ∧ e.phase = .reading ∧ ∃ m, role s e.target = (none, some m)

theorem awaits_iff (s : State) (e : Entry) (n : Nat) :
    Awaits s e n ↔ e.number = n ∧ e.fillDone = false ∧ e.ready s.lines = true := by
  rw [Awaits, Entry.ready, Bool.and_eq_true, beq_iff_eq, isFilling_iff]
  rfl

/-- Entries are distinct and agree with the lines, the Sweep Hold and the requests: `EntriesDistinct` and `StoreAgrees`, in
roles. -/
structure StoreSound (s : State) : Prop where
  numbers : (s.missTable.map Entry.number).Nodup
  targets : (s.missTable.map Entry.target).Nodup
  targetUsed : ∀ e ∈ s.missTable, role s e.target ≠ (none, none)
  reservedTarget : ∀ i n, (role s i).2 = some n → ∃ e ∈ s.missTable, e.target = i
  oneCopy : ∀ i j n, (role s i).1 = some n → (role s j).1 = some n → i = j
  holdApart : ∀ i n, s.hold.number = some n → (role s i).1 ≠ some n
  entries : ∀ e ∈ s.missTable, EntrySound s e
  fillsOnce : (fillsAsked s).Nodup
  fillsAwaited : ∀ n ∈ fillsAsked s, ∃ e ∈ s.missTable, Awaits s e n
  oneSweep : (sweepsAsked s).length ≤ 1
  sweepRead : ∀ n, .read n ∈ sweepsAsked s → s.hold = .reading n
  sweepWrite : ∀ n, .write n ∈ sweepsAsked s → ∃ r, s.hold = .writing n r
  repairs : ∀ n r, .resumeWrite n r ∈ s.inFlight → isResume s.pass = true

theorem isTarget_iff (t : List Entry) (i : Fin 64) : isTarget t i = true ↔ ∃ e ∈ t, e.target = i := by
  simp [isTarget]

theorem storeSound_iff (s : State) : StoreSound s ↔ EntriesDistinct s ∧ StoreAgrees s := by
  simp only [EntriesDistinct, StoreAgrees, CopiesApart, RequestsAgree, ← entrySound_iff, ← awaits_iff, ne_eq, empty_iff,
    reservedLine_iff, isTarget_iff]
  constructor
  · rintro ⟨h1, h2, h3, h4, h5, h6, h7, h8, h9, h10, h11, h12, h13⟩
    exact ⟨⟨h1, h2, h3, fun i ⟨n, hn⟩ => h4 i n hn⟩, ⟨h5, h6⟩, h7, h8, h9, h10, h11, h12, h13⟩
  · rintro ⟨⟨h1, h2, h3, h4⟩, ⟨h5, h6⟩, h7, h8, h9, h10, h11, h12, h13⟩
    exact ⟨h1, h2, h3, fun i n hn => h4 i ⟨n, hn⟩, h5, h6, h7, h8, h9, h10, h11, h12, h13⟩

/-- The line that victim selection chooses: EMPTY, or VALID, unpinned and no target line; a dirty copy is being evicted
from it, and a clean one is gone (R67). -/
theorem selectVictim_line {s : State} {n : Nat} {v : Victim} (h : selectVictim s n = some v) :
    (lineAt s.lines v.target = .empty ∧ lineAt v.lines v.target = .filling n) ∨
      ∃ old r d f, lineAt s.lines v.target = .valid old r d f false ∧ isTarget s.missTable v.target = false ∧
        (d = true ∧ lineAt v.lines v.target = .evicting old r n ∨ d = false ∧ lineAt v.lines v.target = .filling n) := by
  obtain ⟨-, hbefore, -⟩ := selectVictim_some h
  unfold selectVictim at h
  split at h
  · rename_i i hi
    cases h
    have hempty : lineAt s.lines i = .empty := by
      have := List.find?_some hi
      cases hl : lineAt s.lines i <;> simp [hl, Line.isEmpty] at this
      rfl
    exact .inl ⟨hempty, by rw [lineAt_set, if_pos rfl]⟩
  · split at h
    · cases h
    · rename_i i ls hs
      obtain ⟨⟨old, r, d, hscan⟩, htarget, hall⟩ := scan_some hs
      have hvalid : ∃ f, lineAt s.lines i = .valid old r d f false := by
        have hsame := hall i
        rw [hscan] at hsame
        cases hi : lineAt s.lines i <;> rw [hi] at hsame <;> rcases hsame with e | e <;> cases e <;> exact ⟨_, rfl⟩
      obtain ⟨f, hl⟩ := hvalid
      cases d <;> simp only [hscan] at h <;> cases h <;>
        exact .inr ⟨old, r, _, f, hl, htarget, by simp [lineAt_set]⟩

namespace StoreSound

variable {s t : State}

/-! ### Entries of a sound store -/

theorem entry_eq_of_number (h : StoreSound s) {e e' : Entry} (he : e ∈ s.missTable) (he' : e' ∈ s.missTable)
    (hn : e.number = e'.number) : e = e' := List.inj_on_of_nodup_map h.numbers he he' hn

theorem entry_eq_of_target (h : StoreSound s) {e e' : Entry} (he : e ∈ s.missTable) (he' : e' ∈ s.missTable)
    (ht : e.target = e'.target) : e = e' := List.inj_on_of_nodup_map h.targets he he' ht

/-- An entry whose target line holds a VALID copy has had its fill. -/
theorem done_of_valid (h : StoreSound s) {e : Entry} (he : e ∈ s.missTable) {n : Nat}
    (hv : role s e.target = (some n, none)) : e.fillDone = true := by
  by_contra hf
  have := (h.entries e he).reserved (by simpa using hf)
  rw [hv] at this
  cases this

/-- Of a record that no entry names and that is not resident, no line holds the copy. -/
theorem unheld_of_standing (h : StoreSound s) {n : Nat} (hnamed : standing s n ≠ .named)
    (hres : ∀ i, standing s n ≠ .resident i) (i : Fin 64) : role s i ≠ (some n, none) := by
  intro hi
  have hnone := findEntry_none.1 (findEntry_of_standing hnamed)
  cases hr : residentLine s n with
  | some j => exact hres j (by simp [standing, findEntry_of_standing hnamed, hr])
  | none =>
    have hheld : (lineAt s.lines i).holds n = true := (holds_iff _ _).2 hi
    have htarget := List.find?_eq_none.1 hr i (List.mem_finRange i)
    simp only [hheld, Bool.true_and, Bool.not_eq_true, Bool.not_eq_false'] at htarget
    obtain ⟨e, he, rfl⟩ := (isTarget_iff _ _).1 htarget
    have hdone := (h.entries e he).done (h.done_of_valid he hi)
    rw [hi] at hdone
    exact hnone e he (by simpa using hdone.symm)

/-- What a standing says of a record's copies, apart from a copy that a line holds (R66). -/
theorem standing_evicting {n : Nat} (h : standing s n = .evicting) : ∃ i m, role s i = (some n, some m) := by
  unfold standing at h
  split at h
  · cases h
  · split at h
    · cases h
    · split at h
      · rename_i hany
        obtain ⟨l, hl, hev⟩ := List.any_eq_true.1 hany
        obtain ⟨i, hi, rfl⟩ := List.getElem_of_mem hl
        obtain ⟨m, hm⟩ := (evicts_iff _ _).1 hev
        exact ⟨⟨i, by simpa using hi⟩, m, by simpa [role, lineAt] using hm⟩
      · split at h <;> cases h

theorem not_evicting_of_standing {n : Nat} (h : standing s n = .held ∨ standing s n = .absent) (i : Fin 64) (m : Nat) :
    role s i ≠ (some n, some m) := by
  intro hi
  have hev : (lineAt s.lines i).evicts n = true := (evicts_iff _ _).2 ⟨m, hi⟩
  have hany : (s.lines.toList.any fun l => l.evicts n) = true :=
    List.any_eq_true.2 ⟨_, by simp [lineAt], hev⟩
  unfold standing at h
  rw [hany] at h
  split at h
  · simp at h
  · split at h <;> simp at h

theorem hold_of_standing {n : Nat} :
    (standing s n = .held → s.hold.number = some n) ∧ (standing s n = .absent → s.hold.number ≠ some n) := by
  unfold standing
  repeat' split
  all_goals simp_all

/-! ### Operations that leave every line its role -/

theorem role_set (s : State) (i j : Fin 64) (l : Line) :
    roleOf (lineAt (s.lines.set i.val l i.isLt) j) = if j = i then roleOf l else role s j := by
  rw [lineAt_set]
  split <;> rfl

theorem bare_eq {e e' : Entry} (h : bare e' = bare e) :
    e'.number = e.number ∧ e'.phase = e.phase ∧ e'.target = e.target ∧ e'.fillDone = e.fillDone := by
  simpa [bare] using h

theorem entrySound_congr {e e' : Entry} (hb : bare e' = bare e) (hr : ∀ i, role t i = role s i)
    (hh : t.hold.number = s.hold.number) (h : EntrySound s e) : EntrySound t e' := by
  obtain ⟨hn, hp, ht, hf⟩ := bare_eq hb
  obtain ⟨h1, h2, h3, h4, h5, h6⟩ := h
  constructor <;> simp only [hn, hp, ht, hf, hr, hh] <;> assumption

/-- Every line keeps its role, the Sweep Hold and the requests are as they were, and entries have at most served waiters.
-/
theorem of_roles (h : StoreSound s) (hr : ∀ i, role t i = role s i) (ht : Served s.lines s.missTable t.missTable)
    (hh : t.hold = s.hold) (hf : (fillsAsked t).Perm (fillsAsked s)) (hs : (sweepsAsked t).Perm (sweepsAsked s))
    (hp : ∀ n r, .resumeWrite n r ∈ t.inFlight → isResume t.pass = true) : StoreSound t := by
  have from_s : ∀ e' ∈ t.missTable, ∃ e ∈ s.missTable, bare e' = bare e := fun e' he' => by
    obtain ⟨e, he, hb⟩ := List.mem_map.1 (ht.sub.subset (List.mem_map_of_mem he'))
    exact ⟨e, he, hb.symm⟩
  have in_t : ∀ e ∈ s.missTable, (∀ n, role s e.target ≠ (some n, none)) → ∃ e' ∈ t.missTable, bare e' = bare e :=
    fun e he hv => by
      rcases ht.left e he with hl | hl
      · exact List.mem_map.1 hl
      · obtain ⟨n, hn⟩ := (validLine_iff _).1 hl
        exact absurd hn (hv n)
  have nodup {α : Type} (f : Entry → α) (hfb : ∀ e, f (bare e) = f e) (hnd : (s.missTable.map f).Nodup) :
      (t.missTable.map f).Nodup := by
    have hsub := ht.sub.map f
    simp only [List.map_map, Function.comp_def, hfb] at hsub
    exact hnd.sublist hsub
  refine ⟨nodup _ (fun _ => rfl) h.numbers, nodup _ (fun _ => rfl) h.targets, fun e' he' => ?_, fun i n hi => ?_,
    by simpa only [hr] using h.oneCopy, by simpa only [hr, hh] using h.holdApart, fun e' he' => ?_,
    hf.nodup_iff.2 h.fillsOnce, fun n hn => ?_, hs.length_eq ▸ h.oneSweep,
    by simpa only [hs.mem_iff, hh] using h.sweepRead, by simpa only [hs.mem_iff, hh] using h.sweepWrite, hp⟩
  · obtain ⟨e, he, hb⟩ := from_s e' he'
    rw [(bare_eq hb).2.2.1, hr]
    exact h.targetUsed e he
  · rw [hr] at hi
    obtain ⟨e, he, rfl⟩ := h.reservedTarget i n hi
    obtain ⟨e', he', hb⟩ := in_t e he fun m hm => by rw [hm] at hi; cases hi
    exact ⟨e', he', (bare_eq hb).2.2.1⟩
  · obtain ⟨e, he, hb⟩ := from_s e' he'
    exact entrySound_congr hb hr (by rw [hh]) (h.entries e he)
  · obtain ⟨e, he, h1, h2, h3, m, h4⟩ := h.fillsAwaited n (hf.mem_iff.1 hn)
    obtain ⟨e', he', hb⟩ := in_t e he fun k hk => by rw [hk] at h4; cases h4
    obtain ⟨hbn, hbp, hbt, hbf⟩ := bare_eq hb
    exact ⟨e', he', hbn.trans h1, hbf.trans h2, hbp.trans h3, m, by rw [hr, hbt, h4]⟩

theorem quiet (h : StoreSound s) (hq : Quiet s t) : StoreSound t := by
  refine h.of_roles (fun i => by rw [role, hq.lines]; rfl) hq.table hq.hold ?_ ?_ fun n r hn => ?_
  · rw [fillsAsked_eq, fillsAsked_eq, hq.cacheQ, hq.inFlight]
  · rw [sweepsAsked_eq, sweepsAsked_eq, hq.sweepReq, hq.inFlight]
  · rw [hq.pass]
    exact h.repairs n r (hq.inFlight ▸ hn)

/-- A VALID line put for one that holds the same record. -/
theorem role_valid {i : Fin 64} {n : Nat} {r q : Record} {d f p d' f' p' : Bool}
    (hl : lineAt s.lines i = .valid n r d f p) (j : Fin 64) :
    roleOf (lineAt (s.lines.set i.val (.valid n q d' f' p') i.isLt) j) = role s j := by
  rw [role_set]
  split
  · rename_i hj
    rw [role, hj, hl]
    rfl
  · rfl

/-! ### An entry opened (R71, R72) -/


/-- Opening an entry makes one line the new entry's target: it was EMPTY, or VALID and no target line, and is now reserved,
its copy gone or being evicted. Every other line keeps its role. -/
theorem role_selectVictim {n : Nat} {v : Victim} (hv : selectVictim s n = some v) :
    (∀ j, j ≠ v.target → roleOf (lineAt v.lines j) = role s j) ∧ (role s v.target).2 = none ∧
      (role s v.target = (none, none) ∨ isTarget s.missTable v.target = false) ∧
      (roleOf (lineAt v.lines v.target) = (none, some n) ∨
        ∃ old, role s v.target = (some old, none) ∧ roleOf (lineAt v.lines v.target) = (some old, some n)) := by
  obtain ⟨-, -, hothers⟩ := selectVictim_some hv
  refine ⟨fun j hj => roleOf_referenced (hothers j hj), ?_⟩
  obtain ⟨h1, h2⟩ | ⟨old, r, d, f, h1, ht, ⟨-, h2⟩ | ⟨-, h2⟩⟩ := selectVictim_line hv <;> simp [role, h1, h2]
  · exact ht
  · exact ht

end StoreSound

end Sys2Proof.Proofs

namespace Sys2Proof.Proofs

open Sys2Proof Sys2Proof.Machine Sys2Proof.Safety Sys2Proof.Laws

/-- The entry that `openEntry` puts behind the others. -/
def opened (n : Nat) (ph : Phase) (v : Victim) (w : Waiter) : Entry :=
  { number := n, phase := ph, target := v.target, fillDone := false, waiters := [w] }

/-- What opening an entry leaves in the fields of the Record Store (R67, R71, R72). -/
structure OpenedFrom (s t : State) (n : Nat) (ph : Phase) (w : Waiter) (v : Victim) : Prop where
  victim : selectVictim s n = some v
  lines : t.lines = v.lines
  table : t.missTable = s.missTable ++ [opened n ph v w]
  cacheQ : t.cacheQ = s.cacheQ ++ v.request ++
    (if ph = .reading ∧ (lineAt v.lines v.target).isFilling = true then [.fill n] else [])
  hold : t.hold = s.hold
  sweepReq : t.sweepReq = s.sweepReq
  inFlight : t.inFlight = s.inFlight
  pass : t.pass = s.pass
  occupancy : t.occupancy = s.occupancy
  owedCount : t.owedCount = s.owedCount
  memory : t.memory = s.memory
  setup : t.setup = s.setup
  rules : t.rules = s.rules
  device : t.device = s.device
  stage : t.stage = s.stage
  engine : t.engine = s.engine

theorem openedFrom_of_openEntry {s t : State} {n : Nat} {ph : Phase} {w : Waiter} (h : openEntry s n ph w = some t) :
    ∃ v, OpenedFrom s t n ph w v := by
  obtain ⟨v, hv, rfl⟩ := openEntry_eq h
  exact ⟨v, hv, rfl, rfl, rfl, rfl, rfl, rfl, rfl, rfl, rfl, rfl, rfl, rfl, rfl, rfl, rfl⟩

/-- A victim selection requests a write-back at most. -/
theorem fills_request {s : State} {n : Nat} {v : Victim} (h : selectVictim s n = some v) :
    v.request.filterMap fillOf = [] := by
  obtain ⟨⟨-, hr⟩ | ⟨-, -, -, hr⟩, -, -⟩ := selectVictim_some h <;> rw [hr] <;> rfl

theorem phase_iff {s : State} {n : Nat} (hnamed : standing s n ≠ .named) (hres : ∀ i, standing s n ≠ .resident i) :
    ((standing s n).phase = .reading → standing s n = .absent) ∧
      ((standing s n).phase = .waitEvict → standing s n = .evicting) ∧
      ((standing s n).phase = .waitSweep → standing s n = .held) := by
  cases h : standing s n <;> simp_all [Standing.phase]

/-- Line `j` comes to be reserved for record `n`, its copy gone or being evicted; every other line keeps its role. -/
structure Reserved (s t : State) (j : Fin 64) (n : Nat) : Prop where
  others : ∀ i, i ≠ j → role t i = role s i
  free : (role s j).2 = none
  now : role t j = (none, some n) ∨ ∃ old, role s j = (some old, none) ∧ role t j = (some old, some n)

namespace Reserved

variable {s t : State} {j : Fin 64} {n : Nat}

theorem reserved (h : Reserved s t j n) : (role t j).2 = some n := by
  rcases h.now with e | ⟨_, _, e⟩ <;> rw [e]

theorem copy_before (h : Reserved s t j n) {i : Fin 64} {m : Nat} (hi : (role t i).1 = some m) :
    (role s i).1 = some m := by
  by_cases hij : i = j
  · subst hij
    rcases h.now with e | ⟨old, e, e'⟩
    · rw [e] at hi
      cases hi
    · rw [e'] at hi
      rw [e, ← hi]
  · rw [← h.others i hij, hi]

theorem held_before (h : Reserved s t j n) {i : Fin 64} {m : Nat} (hi : role t i = (some m, none)) :
    role s i = (some m, none) := by
  by_cases hij : i = j
  · have hr := h.reserved
    rw [← hij, hi] at hr
    cases hr
  · rw [← h.others i hij, hi]

theorem evicting_after (h : Reserved s t j n) {i : Fin 64} {m k : Nat} (hi : role s i = (some m, some k)) :
    role t i = (some m, some k) := by
  refine (h.others i fun hij => ?_).trans hi
  have hf := h.free
  rw [← hij, hi] at hf
  cases hf

/-- A record of which no line held or evicted the copy has none after it. -/
theorem no_copy (h : Reserved s t j n) {m : Nat} (h1 : ∀ i, role s i ≠ (some m, none))
    (h2 : ∀ i k, role s i ≠ (some m, some k)) (i : Fin 64) (k : Nat) : role t i ≠ (some m, some k) := fun hi => by
  have hs := h.copy_before (show (role t i).1 = some m by rw [hi])
  cases hr : (role s i).2 with
  | none => exact h1 i (Prod.ext hs hr)
  | some x => exact h2 i x (Prod.ext hs hr)

/-- An entry with another target line agrees as before. -/
theorem entrySound (h : Reserved s t j n) {e : Entry} (hj : e.target ≠ j) (hh : t.hold = s.hold)
    (he : EntrySound s e) : EntrySound t e where
  done hd := (h.others _ hj).trans (he.done hd)
  reserved hd := h.others _ hj ▸ he.reserved hd
  unheld hd i hi := he.unheld hd i (h.held_before hi)
  reading hd hp := ⟨hh ▸ (he.reading hd hp).1, h.no_copy (he.unheld hd) (he.reading hd hp).2⟩
  waitEvict hd hp := by
    obtain ⟨i, m, hi⟩ := he.waitEvict hd hp
    exact ⟨i, m, h.evicting_after hi⟩
  waitSweep hd hp := hh ▸ he.waitSweep hd hp

end Reserved

theorem OpenedFrom.reserved {s t : State} {n : Nat} {ph : Phase} {w : Waiter} {v : Victim}
    (h : OpenedFrom s t n ph w v) : Reserved s t v.target n := by
  obtain ⟨hother, hfree, -, hnow⟩ := StoreSound.role_selectVictim h.victim
  exact ⟨fun i hi => by rw [role, h.lines, hother i hi], hfree, by rw [role, h.lines]; exact hnow⟩

/-- The fills asked for after an entry was opened: those before, and the new entry's where it is ready (R72). -/
theorem OpenedFrom.fills {s t : State} {n : Nat} {ph : Phase} {w : Waiter} {v : Victim}
    (h : OpenedFrom s t n ph w v) :
    (fillsAsked t).Perm (fillsAsked s) ∨
      (fillsAsked t).Perm (n :: fillsAsked s) ∧ Awaits t (opened n ph v w) n := by
  rw [fillsAsked_eq t, h.cacheQ, h.inFlight, List.filterMap_append, List.filterMap_append, fills_request h.victim,
    List.append_nil]
  split
  · rename_i hr
    refine .inr ⟨?_, rfl, rfl, hr.1, ?_⟩
    · show (s.cacheQ.filterMap fillOf ++ [n] ++ s.inFlight.filterMap flyingFill).Perm _
      rw [List.append_assoc, List.singleton_append]
      exact List.perm_middle
    · rw [role, h.lines]
      exact (isFilling_iff _).1 hr.2
  · left
    show (s.cacheQ.filterMap fillOf ++ [] ++ s.inFlight.filterMap flyingFill).Perm _
    rw [List.append_nil]
    exact .refl _

namespace StoreSound

variable {s t : State}

/-- No entry has the line for its target that victim selection chooses (R67). -/
theorem target_ne_victim (h : StoreSound s) {n : Nat} {v : Victim} (hv : selectVictim s n = some v) {e : Entry}
    (he : e ∈ s.missTable) : e.target ≠ v.target := fun heq => by
  obtain ⟨-, -, hw | hw, -⟩ := role_selectVictim hv
  · exact h.targetUsed e he (heq ▸ hw)
  · rw [← Bool.not_eq_true, isTarget_iff] at hw
    exact hw ⟨e, he, heq⟩

/-- The entry opened agrees with the lines and the Sweep Hold: its phase is that of the record's standing (R71). -/
theorem entrySound_opened (h : StoreSound s) {n : Nat} {w : Waiter} {v : Victim} (hnamed : standing s n ≠ .named)
    (hres : ∀ i, standing s n ≠ .resident i) (ho : OpenedFrom s t n (standing s n).phase w v) :
    EntrySound t (Proofs.opened n (standing s n).phase v w) := by
  have hr := ho.reserved
  have hunheld := h.unheld_of_standing hnamed hres
  obtain ⟨hreading, hevict, hsweep⟩ := phase_iff hnamed hres
  constructor
  case done => exact fun hd => by cases hd
  case reserved => exact fun _ => hr.reserved
  case unheld => exact fun _ i hi => hunheld i (hr.held_before hi)
  case reading =>
    intro _ hp
    have habsent := hreading hp
    exact ⟨by rw [ho.hold]; exact hold_of_standing.2 habsent,
      hr.no_copy hunheld (not_evicting_of_standing (.inr habsent))⟩
  case waitEvict =>
    intro _ hp
    obtain ⟨i, m, hi⟩ := standing_evicting (hevict hp)
    exact ⟨i, m, hr.evicting_after hi⟩
  case waitSweep =>
    intro _ hp
    rw [ho.hold]
    exact hold_of_standing.1 (hsweep hp)

/-- Opening an entry keeps the store sound (R71, R72). -/
theorem opened (h : StoreSound s) {n : Nat} {w : Waiter} (hnamed : standing s n ≠ .named)
    (hres : ∀ i, standing s n ≠ .resident i) (ho : openEntry s n (standing s n).phase w = some t) : StoreSound t := by
  obtain ⟨v, ho⟩ := openedFrom_of_openEntry ho
  have hr := ho.reserved
  have hnone := findEntry_none.1 (findEntry_of_standing hnamed)
  have hnew : Proofs.opened n (standing s n).phase v w ∈ t.missTable := by rw [ho.table]; simp
  have hkept : ∀ e ∈ s.missTable, e ∈ t.missTable ∧ role t e.target = role s e.target := fun e he =>
    ⟨by rw [ho.table]; simp [he], hr.others _ (h.target_ne_victim ho.victim he)⟩
  have hcases : ∀ e ∈ t.missTable, e ∈ s.missTable ∨ e = Proofs.opened n (standing s n).phase v w := fun e he => by
    simpa [ho.table] using he
  have hfresh {α : Type} (f : Entry → α) (hnd : (s.missTable.map f).Nodup)
      (hf : ∀ e ∈ s.missTable, f e ≠ f (Proofs.opened n (standing s n).phase v w)) : (t.missTable.map f).Nodup := by
    rw [ho.table, List.map_append, List.nodup_append]
    refine ⟨hnd, by simp, fun a ha b hb => ?_⟩
    obtain ⟨e, he, rfl⟩ := List.mem_map.1 ha
    simp only [List.map_cons, List.map_nil, List.mem_singleton] at hb
    exact hb ▸ hf e he
  have hawaited : ∀ m ∈ fillsAsked s, ∃ e ∈ t.missTable, Awaits t e m := fun m hm => by
    obtain ⟨e, he, h1, h2, h3, h4⟩ := h.fillsAwaited m hm
    exact ⟨e, (hkept e he).1, h1, h2, h3, by rw [(hkept e he).2]; exact h4⟩
  have hasked : n ∉ fillsAsked s := fun hn => by
    obtain ⟨e, he, hen, -⟩ := h.fillsAwaited n hn
    exact hnone e he hen
  have hsweeps : sweepsAsked t = sweepsAsked s := by rw [sweepsAsked_eq, ho.sweepReq, ho.inFlight]; rfl
  constructor
  case numbers => exact hfresh _ h.numbers hnone
  case targets => exact hfresh _ h.targets fun e he => h.target_ne_victim ho.victim he
  case targetUsed =>
    intro e he hempty
    rcases hcases e he with he | rfl
    · exact h.targetUsed e he ((hkept e he).2 ▸ hempty)
    · have hreserved := hr.reserved
      rw [show role t v.target = (none, none) from hempty] at hreserved
      cases hreserved
  case reservedTarget =>
    intro i m hi
    by_cases hiv : i = v.target
    · exact ⟨_, hnew, hiv.symm⟩
    · obtain ⟨e, he, het⟩ := h.reservedTarget i m (hr.others i hiv ▸ hi)
      exact ⟨e, (hkept e he).1, het⟩
  case oneCopy => exact fun i j m hi hj => h.oneCopy i j m (hr.copy_before hi) (hr.copy_before hj)
  case holdApart => exact fun i m hm hi => h.holdApart i m (ho.hold ▸ hm) (hr.copy_before hi)
  case entries =>
    intro e he
    rcases hcases e he with he | rfl
    · exact hr.entrySound (h.target_ne_victim ho.victim he) ho.hold (h.entries e he)
    · exact h.entrySound_opened hnamed hres ho
  case fillsOnce =>
    rcases ho.fills with hp | ⟨hp, -⟩
    · exact hp.nodup_iff.2 h.fillsOnce
    · exact hp.nodup_iff.2 (List.nodup_cons.2 ⟨hasked, h.fillsOnce⟩)
  case fillsAwaited =>
    intro m hm
    rcases ho.fills with hp | ⟨hp, ha⟩
    · exact hawaited m (hp.mem_iff.1 hm)
    · rcases List.mem_cons.1 (hp.mem_iff.1 hm) with rfl | hm
      · exact ⟨_, hnew, ha⟩
      · exact hawaited m hm
  case oneSweep => exact hsweeps ▸ h.oneSweep
  case sweepRead => rw [hsweeps, ho.hold]; exact h.sweepRead
  case sweepWrite => rw [hsweeps, ho.hold]; exact h.sweepWrite
  case repairs => rw [ho.inFlight, ho.pass]; exact h.repairs

/-- With an empty Sweep Hold no sweep request is asked for. -/
theorem no_sweep (h : StoreSound s) (hidle : s.hold = .none) : sweepsAsked s = [] := by
  refine List.eq_nil_iff_forall_not_mem.2 fun q hq => ?_
  cases q with
  | read n => exact absurd (h.sweepRead n hq) (by simp [hidle])
  | write n =>
    obtain ⟨r, hr⟩ := h.sweepWrite n hq
    simp [hidle] at hr

/-- A visit begun through the Sweep Hold keeps the store sound (R108). -/
theorem sweepBegun (h : StoreSound s) {n : Nat} (habsent : standing s n = .absent) (hidle : s.hold = .none) :
    StoreSound { s with hold := .reading n, sweepReq := some (.read n) } := by
  have hnamed : standing s n ≠ .named := by simp [habsent]
  have hunheld := h.unheld_of_standing hnamed (by simp [habsent])
  have hnone := findEntry_none.1 (findEntry_of_standing hnamed)
  have hasked : sweepsAsked { s with hold := .reading n, sweepReq := some (.read n) } = [.read n] := by
    have hno := h.no_sweep hidle
    rw [sweepsAsked_eq, List.append_eq_nil_iff] at hno
    rw [sweepsAsked_eq]
    simp [hno.2]
  refine ⟨h.numbers, h.targets, h.targetUsed, h.reservedTarget, h.oneCopy, fun i m hm hi => ?_, fun e he => ?_,
    h.fillsOnce, h.fillsAwaited, by rw [hasked]; simp, fun m hm => ?_, fun m hm => ?_, h.repairs⟩
  · cases hm
    cases hr : (role s i).2 with
    | none => exact hunheld i (Prod.ext hi hr)
    | some k => exact not_evicting_of_standing (.inr habsent) i k (Prod.ext hi hr)
  · obtain ⟨h1, h2, h3, h4, h5, h6⟩ := h.entries e he
    refine ⟨h1, h2, h3, fun hd hp => ⟨fun hn => ?_, (h4 hd hp).2⟩, h5, fun hd hp => ?_⟩
    · cases hn
      exact hnone e he rfl
    · have := h6 hd hp
      rw [hidle] at this
      cases this
  · rw [hasked] at hm
    simp only [List.mem_singleton, SweepReq.read.injEq] at hm
    rw [hm]
  · rw [hasked] at hm
    simp at hm

/-- Every operation of the Record Store keeps it sound. -/
theorem storeOp (h : StoreSound s) (ho : StoreOp s t) : StoreSound t := by
  cases ho with
  | quiet hq => exact h.quiet hq
  | claimed line _ _ =>
    exact h.of_roles (fun j => role_valid line j) (.refl _ _) rfl (.refl _) (.refl _) h.repairs
  | opened hnamed hres _ hopen => exact h.opened hnamed hres hopen
  | sweepBegun habsent _ hidle => exact h.sweepBegun habsent hidle

theorem acts (h : StoreSound s) (ha : Acts s t) : StoreSound t := by
  induction ha with
  | refl => exact h
  | tail _ ho ih => exact ih.storeOp ho

end StoreSound

end Sys2Proof.Proofs

namespace Sys2Proof.Proofs

open Sys2Proof Sys2Proof.Machine Sys2Proof.Safety Sys2Proof.Laws

/-! ### Entries moved on to READING (R72, R84, R109) -/

/-- An entry of record `n` in phase `ph` moves to READING. -/
def movedOn (n : Nat) (ph : Phase) (e : Entry) : Entry :=
  if e.number = n ∧ e.phase = ph then { e with phase := .reading } else e

theorem movedOn_same (n : Nat) (ph : Phase) (e : Entry) :
    (movedOn n ph e).number = e.number ∧ (movedOn n ph e).target = e.target ∧
      (movedOn n ph e).fillDone = e.fillDone := by
  unfold movedOn
  split <;> exact ⟨rfl, rfl, rfl⟩

/-- The records whose fill read becomes ready as entries of `n` leave phase `ph` and the lines become `ls`. -/
def readied (s : State) (n : Nat) (ph : Phase) (ls : Vector Line 64) : List Nat :=
  (s.missTable.filter fun e => (movedOn n ph e).ready ls && !e.ready s.lines).map Entry.number

theorem newlyReady_fills {s t : State} {n : Nat} {ph : Phase} (h : t.missTable = advancePhase s.missTable n ph) :
    (newlyReady s t).filterMap fillOf = readied s n ph t.lines := by
  have hzip (l : List Entry) : l.zip (l.map (movedOn n ph)) = l.map fun e => (e, movedOn n ph e) := by
    induction l with
    | nil => rfl
    | cons a t ih => simp [ih]
  have htable : t.missTable = s.missTable.map (movedOn n ph) := h
  unfold newlyReady readied
  rw [htable, hzip, List.filter_map, List.map_map, List.filterMap_map]
  induction s.missTable with
  | nil => rfl
  | cons a l ih =>
    simp only [List.filter_cons, Function.comp_apply]
    split
    · rw [List.filterMap_cons, List.map_cons, ← ih]
      exact congrArg (· :: _) (movedOn_same n ph a).1
    · exact ih

/-- The entries of record `n` leave phase `ph`, since what they waited for is done: a write-back of `n`'s copy, or the
sweep write of `n`. -/
structure Advanced (s t : State) (n : Nat) (ph : Phase) : Prop where
  table : t.missTable = s.missTable.map (movedOn n ph)
  roles : ∀ j, role t j = role s j ∨
    ph = .waitEvict ∧ ∃ k, role s j = (some n, some k) ∧ role t j = (none, some k)
  hold : t.hold.number = s.hold.number ∨ ph = .waitSweep ∧ s.hold.number = some n ∧ t.hold = .none
  free : t.hold.number ≠ some n ∧ ∀ i m, role t i ≠ (some n, some m)
  fills : (fillsAsked t).Perm (fillsAsked s ++ readied s n ph t.lines)

namespace Advanced

variable {s t : State} {n : Nat} {ph : Phase}

theorem reserved (h : Advanced s t n ph) (j : Fin 64) : (role t j).2 = (role s j).2 := by
  rcases h.roles j with e | ⟨-, k, e1, e2⟩
  · rw [e]
  · rw [e1, e2]

theorem copy_before (h : Advanced s t n ph) {j : Fin 64} {m : Nat} (hj : (role t j).1 = some m) :
    role t j = role s j := by
  rcases h.roles j with e | ⟨-, k, -, e⟩
  · exact e
  · rw [e] at hj
    cases hj

theorem unreserved (h : Advanced s t n ph) {j : Fin 64} (hj : (role s j).2 = none) : role t j = role s j := by
  rcases h.roles j with e | ⟨-, k, e, -⟩
  · exact e
  · rw [e] at hj
    cases hj

theorem filling (h : Advanced s t n ph) {j : Fin 64} {m : Nat} (hj : role s j = (none, some m)) :
    role t j = (none, some m) := by
  rcases h.roles j with e | ⟨-, k, e, -⟩
  · rw [e, hj]
  · rw [e] at hj
    cases hj

theorem hold_before (h : Advanced s t n ph) {m : Nat} (hm : t.hold.number = some m) : s.hold.number = some m := by
  rcases h.hold with e | ⟨-, -, e⟩
  · rw [← e, hm]
  · rw [e] at hm
    cases hm

/-- An entry that agreed with the lines and the Sweep Hold agrees with them after moving on. -/
theorem entrySound (h : Advanced s t n ph) {e : Entry} (he : EntrySound s e) : EntrySound t (movedOn n ph e) := by
  obtain ⟨hnum, htarget, hdone⟩ := movedOn_same n ph e
  constructor <;> rw [hdone] <;> intro hd
  case done =>
    have hs := he.done hd
    rw [hnum, htarget, h.unreserved (by rw [hs]), hs]
  case reserved => rw [hnum, htarget, h.reserved, he.reserved hd]
  case unheld =>
    rw [hnum]
    exact fun i hi => he.unheld hd i (h.copy_before (by rw [hi]) ▸ hi)
  case reading =>
    intro hp
    by_cases hmoved : e.number = n ∧ e.phase = ph
    · rw [hnum, hmoved.1]
      exact h.free
    · rw [movedOn, if_neg hmoved] at hp ⊢
      obtain ⟨h1, h2⟩ := he.reading hd hp
      exact ⟨fun hh => h1 (h.hold_before hh), fun i m hi => h2 i m (h.copy_before (by rw [hi]) ▸ hi)⟩
  case waitEvict =>
    intro hp
    by_cases hmoved : e.number = n ∧ e.phase = ph
    · rw [movedOn, if_pos hmoved] at hp
      cases hp
    · rw [movedOn, if_neg hmoved] at hp ⊢
      obtain ⟨i, m, hi⟩ := he.waitEvict hd hp
      rcases h.roles i with e' | ⟨hph, k, e', -⟩
      · exact ⟨i, m, by rw [e', hi]⟩
      · rw [hi] at e'
        exact absurd ⟨by simpa using congrArg Prod.fst e', hp.trans hph.symm⟩ hmoved
  case waitSweep =>
    intro hp
    by_cases hmoved : e.number = n ∧ e.phase = ph
    · rw [movedOn, if_pos hmoved] at hp
      cases hp
    · rw [movedOn, if_neg hmoved] at hp ⊢
      have hs := he.waitSweep hd hp
      rcases h.hold with e' | ⟨hph, hn, -⟩
      · rw [e', hs]
      · rw [hs] at hn
        exact absurd ⟨by simpa using hn, hp.trans hph.symm⟩ hmoved

/-- The store stays sound as entries move on, and the fill reads that become ready are asked for (R72). -/
theorem storeSound (h : Advanced s t n ph) (hs : StoreSound s) (hone : (sweepsAsked t).length ≤ 1)
    (hread : ∀ m, .read m ∈ sweepsAsked t → t.hold = .reading m)
    (hwrite : ∀ m, .write m ∈ sweepsAsked t → ∃ r, t.hold = .writing m r)
    (hrep : ∀ m r, .resumeWrite m r ∈ t.inFlight → isResume t.pass = true) : StoreSound t := by
  have hmem {e : Entry} : e ∈ t.missTable ↔ ∃ x ∈ s.missTable, movedOn n ph x = e := by rw [h.table, List.mem_map]
  have hin {x : Entry} (hx : x ∈ s.missTable) : movedOn n ph x ∈ t.missTable := hmem.2 ⟨x, hx, rfl⟩
  have hmap {α : Type} (f : Entry → α) (hf : ∀ e, f (movedOn n ph e) = f e) :
      t.missTable.map f = s.missTable.map f := by
    rw [h.table, List.map_map]
    exact List.map_congr_left fun e _ => hf e
  have hreadied : ∀ m ∈ readied s n ph t.lines, ∃ e ∈ s.missTable,
      e.number = m ∧ (movedOn n ph e).ready t.lines = true ∧ ¬e.ready s.lines = true := fun m hm => by
    obtain ⟨e, he, rfl⟩ := List.mem_map.1 hm
    obtain ⟨he, hr⟩ := List.mem_filter.1 he
    rw [Bool.and_eq_true, Bool.not_eq_true', ← Bool.not_eq_true] at hr
    exact ⟨e, he, rfl, hr⟩
  have hentry {e : Entry} (he : e ∈ s.missTable) : EntrySound t (movedOn n ph e) := h.entrySound (hs.entries e he)
  constructor
  case numbers => rw [hmap _ fun e => (movedOn_same n ph e).1]; exact hs.numbers
  case targets => rw [hmap _ fun e => (movedOn_same n ph e).2.1]; exact hs.targets
  case targetUsed =>
    intro e he hempty
    obtain ⟨x, hx, rfl⟩ := hmem.1 he
    rw [(movedOn_same n ph x).2.1] at hempty
    have hfree : (role s x.target).2 = none := by rw [← h.reserved, hempty]
    exact hs.targetUsed x hx (h.unreserved hfree ▸ hempty)
  case reservedTarget =>
    intro i m hi
    obtain ⟨e, he, het⟩ := hs.reservedTarget i m (h.reserved i ▸ hi)
    exact ⟨_, hin he, (movedOn_same n ph e).2.1.trans het⟩
  case oneCopy =>
    exact fun i j m hi hj => hs.oneCopy i j m (h.copy_before hi ▸ hi) (h.copy_before hj ▸ hj)
  case holdApart => exact fun i m hm hi => hs.holdApart i m (h.hold_before hm) (h.copy_before hi ▸ hi)
  case entries =>
    intro e he
    obtain ⟨x, hx, rfl⟩ := hmem.1 he
    exact hentry hx
  case fillsOnce =>
    rw [h.fills.nodup_iff, List.nodup_append]
    refine ⟨hs.fillsOnce, hs.numbers.sublist (List.filter_sublist.map _), fun a ha b hb hab => ?_⟩
    obtain ⟨e, he, hen, hef, her⟩ := hs.fillsAwaited a ha
    obtain ⟨x, hx, hxn, -, hxr⟩ := hreadied b hb
    have : e = x := hs.entry_eq_of_number he hx (by rw [hen, hxn, hab])
    subst this
    exact hxr (((awaits_iff s e a).1 ⟨hen, hef, her⟩).2.2)
  case fillsAwaited =>
    intro m hm
    rcases List.mem_append.1 (h.fills.mem_iff.1 hm) with hm | hm
    · obtain ⟨e, he, h1, h2, h3, k, h4⟩ := hs.fillsAwaited m hm
      obtain ⟨hnum, htarget, hdone⟩ := movedOn_same n ph e
      refine ⟨_, hin he, hnum.trans h1, hdone.trans h2, ?_, k, by rw [htarget]; exact h.filling h4⟩
      unfold movedOn
      split
      · rfl
      · exact h3
    · obtain ⟨e, he, rfl, hr, -⟩ := hreadied m hm
      refine ⟨_, hin he, (awaits_iff _ _ _).2 ⟨(movedOn_same n ph e).1, ?_, hr⟩⟩
      by_contra hd
      have hdone := (hentry he).done (by simpa using hd)
      rw [Entry.ready, Bool.and_eq_true, isFilling_iff] at hr
      obtain ⟨-, k, hk⟩ := hr
      rw [role, hk] at hdone
      cases hdone
  case oneSweep => exact hone
  case sweepRead => exact hread
  case sweepWrite => exact hwrite
  case repairs => exact hrep

end Advanced

/-- What a completed write-back of an EVICTING line, or a completed sweep write, leaves beside the lines and the Sweep Hold:
the image written, entries moved on, and the fill reads that became ready requested (R72, R84, R109). -/
structure ImageWritten (s t : State) (n : Nat) (ph : Phase) (copy : Record) : Prop where
  table : t.missTable = s.missTable.map (movedOn n ph)
  cacheQ : ∃ new, t.cacheQ = s.cacheQ ++ new ∧ new.filterMap fillOf = readied s n ph t.lines ∧
    ∀ q ∈ new, ∃ e ∈ s.missTable, q = .fill e.number
  memory : t.memory = s.memory.writeWords (16 * n) (encodeImage copy)
  sweepReq : t.sweepReq = s.sweepReq
  pass : t.pass = s.pass
  occupancy : t.occupancy = s.occupancy
  owedCount : t.owedCount = s.owedCount
  setup : t.setup = s.setup
  rules : t.rules = s.rules
  device : t.device = s.device
  stage : t.stage = s.stage
  engine : t.engine = s.engine

theorem newlyReady_numbers {s t : State} {n : Nat} {ph : Phase} (h : t.missTable = s.missTable.map (movedOn n ph)) :
    ∀ q ∈ newlyReady s t, ∃ e ∈ s.missTable, q = .fill e.number := by
  intro q hq
  obtain ⟨⟨e, e'⟩, hp, rfl⟩ := List.mem_map.1 hq
  have hmem := (List.of_mem_zip (List.mem_filter.1 hp).1).2
  rw [h] at hmem
  obtain ⟨x, hx, rfl⟩ := List.mem_map.1 hmem
  exact ⟨x, hx, by rw [(movedOn_same n ph x).1]⟩

/-- The requests that `requestReady` adds as entries move on. -/
theorem requestReady_cacheQ {s t : State} {n : Nat} {ph : Phase} (h : t.missTable = s.missTable.map (movedOn n ph)) :
    ∃ new, (requestReady s t).cacheQ = t.cacheQ ++ new ∧ new.filterMap fillOf = readied s n ph t.lines ∧
      ∀ q ∈ new, ∃ e ∈ s.missTable, q = .fill e.number :=
  ⟨newlyReady s t, rfl, newlyReady_fills h, newlyReady_numbers h⟩

theorem requestReady_image {s t : State} {n : Nat} {ph : Phase} {copy : Record}
    (table : t.missTable = s.missTable.map (movedOn n ph)) (cacheQ : t.cacheQ = s.cacheQ)
    (memory : t.memory = s.memory.writeWords (16 * n) (encodeImage copy)) (sweepReq : t.sweepReq = s.sweepReq)
    (pass : t.pass = s.pass) (occupancy : t.occupancy = s.occupancy) (owedCount : t.owedCount = s.owedCount)
    (setup : t.setup = s.setup) (rules : t.rules = s.rules) (device : t.device = s.device) (stage : t.stage = s.stage)
    (engine : t.engine = s.engine) : ImageWritten s (requestReady s t) n ph copy :=
  ⟨table, by rw [← cacheQ]; exact requestReady_cacheQ table, memory, sweepReq, pass, occupancy, owedCount, setup, rules,
    device, stage, engine⟩

/-- The state in which the ready fill reads are requested, as a write-back completes. -/
def evictedLine (s : State) (i : Fin 64) (old : Nat) (copy : Record) (reserved : Nat) : State :=
  { s with
    memory := s.memory.writeWords (16 * old) (encodeImage copy)
    stats := { s.stats with dirtyWriteBacks := s.stats.dirtyWriteBacks + 1 }
    lines := s.lines.set i.val (.filling reserved) i.isLt
    missTable := advancePhase s.missTable old .waitEvict }

theorem evictionWritten_eq (s : State) (i : Fin 64) (old : Nat) (copy : Record) (reserved : Nat) :
    evictionWritten s i old copy reserved = requestReady s (evictedLine s i old copy reserved) := by
  simp only [evictionWritten, evictedLine, State.setLine, countWriteBack, writeImage]

theorem evictionWritten_image (s : State) (i : Fin 64) (old : Nat) (copy : Record) (reserved : Nat) :
    ImageWritten s (evictionWritten s i old copy reserved) old .waitEvict copy ∧
      (evictionWritten s i old copy reserved).lines = s.lines.set i.val (.filling reserved) i.isLt ∧
      (evictionWritten s i old copy reserved).hold = s.hold ∧
      (evictionWritten s i old copy reserved).inFlight = s.inFlight := by
  rw [evictionWritten_eq]
  exact ⟨requestReady_image rfl rfl rfl rfl rfl rfl rfl rfl rfl rfl rfl rfl, rfl, rfl, rfl⟩

theorem released_image (s : State) (n : Nat) (copy : Record) :
    ImageWritten s (released s n copy) n .waitSweep copy ∧ (released s n copy).lines = s.lines ∧
      (released s n copy).hold = .none ∧ (released s n copy).inFlight = s.inFlight :=
  ⟨requestReady_image rfl rfl rfl rfl rfl rfl rfl rfl rfl rfl rfl rfl, rfl, rfl, rfl⟩

/-! ### The completions of the store's transactions -/

/-- The requests asked for, the oldest transaction in flight apart from the others. -/
theorem asked_cons {s : State} {x : Txn} {rest : List Txn} (hf : s.inFlight = x :: rest) :
    fillsAsked s = s.cacheQ.filterMap fillOf ++ ((flyingFill x).toList ++ rest.filterMap flyingFill) ∧
      sweepsAsked s = s.sweepReq.toList ++ ((flyingSweep x).toList ++ rest.filterMap flyingSweep) := by
  rw [fillsAsked_eq, sweepsAsked_eq, hf]
  cases x <;> exact ⟨rfl, rfl⟩

/-- The fills asked for after a completed write: those before, and those that became ready. -/
theorem ImageWritten.fills {s t : State} {n : Nat} {ph : Phase} {copy : Record} {x : Txn} {rest : List Txn}
    (hf : s.inFlight = x :: rest) (hx : flyingFill x = none)
    (h : ImageWritten { s with inFlight := rest } t n ph copy) (ht : t.inFlight = rest) :
    (fillsAsked t).Perm (fillsAsked s ++ readied s n ph t.lines) := by
  obtain ⟨new, hq, hnew, -⟩ := h.cacheQ
  rw [(asked_cons hf).1, fillsAsked_eq, hq, ht, List.filterMap_append, hnew, hx, List.append_assoc, List.append_assoc]
  exact (List.perm_append_left_iff _).2 List.perm_append_comm

namespace StoreSound

variable {s : State}

/-- The write-back of an EVICTING line completes (R84, R72). -/
theorem evicted (h : StoreSound s) {i : Fin 64} {old reserved : Nat} {copy : Record} {rest : List Txn}
    (hf : s.inFlight = .writeBack i :: rest) (hl : lineAt s.lines i = .evicting old copy reserved) :
    StoreSound (evictionWritten { s with inFlight := rest } i old copy reserved) := by
  obtain ⟨himage, hlines, hhold, hflight⟩ := evictionWritten_image { s with inFlight := rest } i old copy reserved
  generalize evictionWritten { s with inFlight := rest } i old copy reserved = t at *
  have hi : role s i = (some old, some reserved) := by rw [role, hl]; rfl
  have hrole (j : Fin 64) : role t j = if j = i then (none, some reserved) else role s j := by
    rw [role, hlines]
    exact role_set s i j _
  have hadv : Advanced s t old .waitEvict := by
    constructor
    case table => exact himage.table
    case roles =>
      intro j
      rw [hrole]
      split
      · rename_i hj
        exact .inr ⟨rfl, reserved, hj ▸ hi, rfl⟩
      · exact .inl rfl
    case hold => exact .inl (by rw [hhold])
    case free =>
      refine ⟨fun hh => h.holdApart i old (by rw [← hh, hhold]) (by rw [hi]), fun j m hj => ?_⟩
      rw [hrole] at hj
      split at hj
      · cases hj
      · rename_i hne
        exact hne (h.oneCopy j i old (by rw [hj]) (by rw [hi]))
    case fills => exact himage.fills hf rfl hflight
  have hsame : sweepsAsked t = sweepsAsked s := by
    rw [(asked_cons hf).2, sweepsAsked_eq, himage.sweepReq, hflight]
    rfl
  refine hadv.storeSound h (hsame ▸ h.oneSweep) ?_ ?_ fun m r hm => ?_
  · rw [hsame, hhold]
    exact h.sweepRead
  · rw [hsame, hhold]
    exact h.sweepWrite
  · rw [hflight] at hm
    rw [himage.pass]
    exact h.repairs m r (hf ▸ List.mem_cons_of_mem _ hm)

/-- The sweep write in flight is that of the record in the Sweep Hold. -/
theorem sweepWrite_hold (h : StoreSound s) {n m : Nat} {copy : Record} {rest : List Txn}
    (hf : s.inFlight = .sweepWrite n :: rest) (hh : s.hold = .writing m copy) : m = n := by
  obtain ⟨r, hr⟩ := h.sweepWrite n (by rw [(asked_cons hf).2]; simp [flyingSweep])
  rw [hh] at hr
  cases hr
  rfl

/-- While a sweep request is in flight no other is asked for. -/
theorem sweep_alone (h : StoreSound s) {x : Txn} {q : SweepReq} {rest : List Txn} (hf : s.inFlight = x :: rest)
    (hx : flyingSweep x = some q) : s.sweepReq = none ∧ rest.filterMap flyingSweep = [] := by
  have hlen := h.oneSweep
  rw [(asked_cons hf).2, hx] at hlen
  simp only [Option.toList_some, List.length_append, List.length_singleton] at hlen
  refine ⟨?_, List.eq_nil_of_length_eq_zero (by omega)⟩
  cases hq : s.sweepReq with
  | none => rfl
  | some q' =>
    simp only [hq, Option.toList_some, List.length_singleton] at hlen
    omega

/-- The sweep write of the record in the Sweep Hold completes (R109). -/
theorem released (h : StoreSound s) {n : Nat} {copy : Record} {rest : List Txn}
    (hf : s.inFlight = .sweepWrite n :: rest) (hh : s.hold = .writing n copy) :
    StoreSound (released { s with inFlight := rest } n copy) := by
  obtain ⟨himage, hlines, hhold, hflight⟩ := released_image { s with inFlight := rest } n copy
  generalize Proofs.released { s with inFlight := rest } n copy = t at *
  have hnamed : s.hold.number = some n := by rw [hh]; rfl
  have hrole (j : Fin 64) : role t j = role s j := by rw [role, hlines]; rfl
  have hadv : Advanced s t n .waitSweep := by
    refine ⟨himage.table, fun j => .inl (hrole j), .inr ⟨rfl, hnamed, hhold⟩, ⟨by rw [hhold]; simp [SweepHold.number],
      fun j k hj => h.holdApart j n hnamed ?_⟩, himage.fills hf rfl hflight⟩
    rw [← hrole, hj]
  have hnone : sweepsAsked t = [] := by
    obtain ⟨h1, h2⟩ := h.sweep_alone hf rfl
    rw [sweepsAsked_eq, himage.sweepReq, hflight, h2]
    simpa using h1
  refine hadv.storeSound h (by rw [hnone]; simp) (fun k hk => ?_) (fun k hk => ?_) fun k r hk => ?_
  · rw [hnone] at hk
    cases hk
  · rw [hnone] at hk
    cases hk
  · rw [hflight] at hk
    rw [himage.pass]
    exact h.repairs k r (hf ▸ List.mem_cons_of_mem _ hk)

/-- A cache request goes in flight (R83). -/
theorem issued_cache (h : StoreSound s) {q : CacheReq} {rest : List CacheReq} (hq : s.cacheQ = q :: rest) :
    StoreSound (fly { s with cacheQ := rest } q.txn) := by
  refine h.of_roles (fun _ => rfl) (.refl _ _) rfl ?_ ?_ fun n r hn => ?_
  · rw [fillsAsked_eq, fillsAsked_eq, hq]
    show (rest.filterMap fillOf ++ (s.inFlight ++ [q.txn]).filterMap flyingFill).Perm _
    rw [List.filterMap_append, ← List.append_assoc]
    refine List.perm_append_comm.trans ?_
    rw [← List.append_assoc]
    cases q <;> exact .refl _
  · rw [sweepsAsked_eq, sweepsAsked_eq]
    show (s.sweepReq.toList ++ (s.inFlight ++ [q.txn]).filterMap flyingSweep).Perm _
    rw [List.filterMap_append]
    cases q <;> simp [CacheReq.txn, flyingSweep, List.filterMap_cons]
  · rcases List.mem_append.1 hn with hn | hn
    · exact h.repairs n r hn
    · cases q <;> simp [CacheReq.txn] at hn

/-- The sweep request goes in flight (R83). -/
theorem issued_sweep (h : StoreSound s) {q : SweepReq} (hq : s.sweepReq = some q) :
    StoreSound (fly { s with sweepReq := none } q.txn) := by
  refine h.of_roles (fun _ => rfl) (.refl _ _) rfl ?_ ?_ fun n r hn => ?_
  · rw [fillsAsked_eq, fillsAsked_eq]
    show (s.cacheQ.filterMap fillOf ++ (s.inFlight ++ [q.txn]).filterMap flyingFill).Perm _
    rw [List.filterMap_append]
    cases q <;> simp [SweepReq.txn, flyingFill, List.filterMap_cons]
  · rw [sweepsAsked_eq, sweepsAsked_eq, hq]
    show ((s.inFlight ++ [q.txn]).filterMap flyingSweep).Perm _
    rw [List.filterMap_append]
    cases q <;> exact List.perm_append_comm
  · rcases List.mem_append.1 hn with hn | hn
    · exact h.repairs n r hn
    · cases q <;> simp [SweepReq.txn] at hn

end StoreSound

/-- What MEMORY_ISSUE puts in flight while no pass is in progress (R83). -/
theorem issueNext_of_none {s : State} (hp : s.pass = .none) :
    (∃ q rest, s.cacheQ = q :: rest ∧ issueNext s = fly { s with cacheQ := rest } q.txn) ∨
      (∃ q, s.sweepReq = some q ∧ issueNext s = fly { s with sweepReq := none } q.txn) ∨ issueNext s = s := by
  unfold issueNext
  split
  all_goals try (rename_i he; rw [hp] at he; cases he)
  split
  · rename_i q rest hq
    exact .inl ⟨q, rest, hq, rfl⟩
  · split
    · rename_i q hq
      exact .inr (.inl ⟨q, hq, rfl⟩)
    · exact .inr (.inr rfl)

theorem StoreSound.issued {s : State} (h : StoreSound s) (hp : s.pass = .none) : StoreSound (issueNext s) := by
  obtain ⟨q, rest, hq, e⟩ | ⟨q, hq, e⟩ | e := issueNext_of_none hp <;> rw [e]
  · exact h.issued_cache hq
  · exact h.issued_sweep hq
  · exact h

end Sys2Proof.Proofs

namespace Sys2Proof.Proofs

open Sys2Proof Sys2Proof.Machine Sys2Proof.Safety Sys2Proof.Laws

/-! ### What a completed read leaves (R73, R94, R108) -/

/-- What the read of record `n`'s image comes to. -/
def formedBy (s : State) (n : Nat) (source : FaultSource) (vacant : Bool) (damage : Damage) : Formed :=
  formCopy source vacant s.freeIndex ((s.memory.addDamage n damage).checkImage n)

/-- A read that makes a record FAULTED forms a FAULTED copy, in a line that is dirty (R92, R95). -/
theorem formCopy_faulted {source : FaultSource} {vacant : Bool} {use : Nat} {checks : List WordCheck}
    (h : (formCopy source vacant use checks).becameFaulted = true) :
    (formCopy source vacant use checks).copy.state = .faulted ∧ (formCopy source vacant use checks).dirty = true := by
  unfold formCopy at h ⊢
  dsimp only at h ⊢
  split at h
  · cases h
  · rw [if_neg (by assumption)]
    split at h
    · cases h
    · rw [if_neg (by assumption)]
      split at h
      · cases h
      · rw [if_neg (by assumption)]
        split at h
        · rw [if_pos (by assumption)]
          exact ⟨rfl, rfl⟩
        · cases h

theorem offerFaulted_change {s : State} {n : Nat} {f : Formed} (h : f.becameFaulted = true → f.copy.state = .faulted) :
    CopyChange n s f.copy (offerFaulted s n f).1 (offerFaulted s n f).2 := by
  unfold offerFaulted
  split
  · rename_i hf
    exact offerNotice_change (by simp [h hf]) _ _ _ _
  · exact .refl s f.copy

/-- A read of record `n` has completed: the damage it found is in the memory, and the copy formed, `f.copy`, came to be `q`
by the notices offered, with the map and the count that follow. -/
structure ReadFrom (s t : State) (n : Nat) (damage : Damage) (f : Formed) (q : Record) : Prop where
  memory : t.memory = s.memory.addDamage n damage
  change : CopyChange n s f.copy t q
  inFlight : t.inFlight = s.inFlight
  pass : t.pass = s.pass
  setup : t.setup = s.setup
  rules : t.rules = s.rules
  device : t.device = s.device
  cacheQ : t.cacheQ = s.cacheQ
  stage : t.stage = s.stage
  engine : t.engine = s.engine

/-- The entry whose fill read has completed. -/
def filledEntry (f : Formed) (e : Entry) : Entry :=
  { e with fillDone := true, waiters := if f.becameFaulted then e.waiters.map Waiter.meetFault else e.waiters }

theorem landed_read (s : State) (n : Nat) (i : Fin 64) (damage : Damage) :
    ∃ q, ReadFrom s (landed s n i damage) n damage (formedBy s n .fill (!occupied s n) damage) q ∧
      ((formedBy s n .fill (!occupied s n) damage).dirty = false →
        q = (formedBy s n .fill (!occupied s n) damage).copy) ∧
      (landed s n i damage).lines =
        s.lines.set i.val (.valid n q (formedBy s n .fill (!occupied s n) damage).dirty false false) i.isLt ∧
      (landed s n i damage).missTable =
        updateEntry s.missTable n (fun e => some (filledEntry (formedBy s n .fill (!occupied s n) damage) e)) ∧
      (landed s n i damage).hold = s.hold ∧ (landed s n i damage).sweepReq = s.sweepReq := by
  have hfault (h : (formedBy s n .fill (!occupied s n) damage).becameFaulted = true) :
      (formedBy s n .fill (!occupied s n) damage).copy.state = .faulted ∧
        (formedBy s n .fill (!occupied s n) damage).dirty = true := formCopy_faulted h
  have hread : (readImage s n .fill (!occupied s n) damage).2 = formedBy s n .fill (!occupied s n) damage := rfl
  unfold landed
  dsimp only
  rw [hread]
  generalize formedBy s n .fill (!occupied s n) damage = f at *
  have hframe := (offerFaulted_frame (readImage s n .fill (!occupied s n) damage).1 n f).1
  have hchange := offerFaulted_change (s := (readImage s n .fill (!occupied s n) damage).1) (n := n)
    fun h => (hfault h).1
  have hclean : f.dirty = false →
      (offerFaulted (readImage s n .fill (!occupied s n) damage).1 n f).2 = f.copy := fun hd => by
    unfold offerFaulted
    rw [if_neg fun h => by rw [(hfault h).2] at hd; cases hd]
  generalize offerFaulted (readImage s n .fill (!occupied s n) damage).1 n f = offer at *
  obtain ⟨u, q⟩ := offer
  obtain ⟨new, occupancy, owed, rfl⟩ := hframe
  exact ⟨q, ⟨rfl, ⟨hchange.others, hchange.vacant, hchange.clear, hchange.count⟩, rfl, rfl, rfl, rfl, rfl, rfl, rfl, rfl⟩,
    hclean, rfl, rfl, rfl, rfl⟩

theorem swept_read (s : State) (n : Nat) (damage : Damage) (v : VisitEvents) :
    ∃ q, ReadFrom s (sweepVisited s n damage v) n damage (formedBy s n .sweep false damage) q ∧
      (sweepVisited s n damage v).lines = s.lines ∧ (sweepVisited s n damage v).missTable = s.missTable ∧
      (sweepVisited s n damage v).hold = .writing n q ∧
      (sweepVisited s n damage v).sweepReq = some (.write n) := by
  have hread : (readImage s n .sweep false damage).2 = formedBy s n .sweep false damage := rfl
  unfold sweepVisited
  dsimp only
  rw [hread]
  have hframe := (offerFaulted_frame (readImage s n .sweep false damage).1 n (formedBy s n .sweep false damage)).1
  have hchange := offerFaulted_change (s := (readImage s n .sweep false damage).1) (n := n)
    (f := formedBy s n .sweep false damage) fun h => (formCopy_faulted h).1
  generalize formedBy s n .sweep false damage = f at *
  generalize offerFaulted (readImage s n .sweep false damage).1 n f = offer at *
  have hvisit := visitActions_frame v offer.1 n offer.2
  have hboth := hchange.trans (visitActions_change v offer.1 n offer.2)
  generalize visitActions v offer.1 n offer.2 = visit at *
  obtain ⟨u, r⟩ := offer
  obtain ⟨x, q⟩ := visit
  obtain ⟨new, occupancy, owed, rfl⟩ := hframe
  obtain ⟨j, new', out, responses, notices, occupancy', owed', -, rfl⟩ := hvisit
  exact ⟨q, ⟨rfl, ⟨hboth.others, hboth.vacant, hboth.clear, hboth.count⟩, rfl, rfl, rfl, rfl, rfl, rfl, rfl, rfl⟩, rfl,
    rfl, rfl, rfl⟩

namespace StoreSound

variable {s : State}

/-- The entry that a fill read in flight is for: it waits for it, and no other does. -/
theorem fill_entry (h : StoreSound s) {n : Nat} {e : Entry} {rest : List Txn} (hf : s.inFlight = .fill n :: rest)
    (he : findEntry s.missTable n = some e) :
    ∃ before after, EntryAt s.missTable n before e after ∧ e.fillDone = false ∧ e.phase = .reading ∧
      role s e.target = (none, some n) := by
  obtain ⟨before, after, hat⟩ := entryAt_of_findEntry he
  have hmem : e ∈ s.missTable := by rw [hat.1]; simp
  obtain ⟨x, hx, hxn, hxd, hxp, m, hxr⟩ := h.fillsAwaited n (by rw [(asked_cons hf).1]; simp [flyingFill])
  have hxe : x = e := h.entry_eq_of_number hx hmem (by rw [hxn, hat.2.1])
  subst hxe
  have hres := (h.entries x hx).reserved hxd
  rw [hxr, hxn] at hres
  exact ⟨before, after, hat, hxd, hxp, by rw [hxr]; exact Prod.ext rfl hres⟩

/-- Of a record whose fill read is in flight the part holds no copy. -/
theorem fill_no_copy (h : StoreSound s) {n : Nat} {e : Entry} {rest : List Txn} (hf : s.inFlight = .fill n :: rest)
    (he : findEntry s.missTable n = some e) : s.hold.number ≠ some n ∧ ∀ i, (role s i).1 ≠ some n := by
  obtain ⟨before, after, hat, hd, hp, -⟩ := h.fill_entry hf he
  have hsound := h.entries e (by rw [hat.1]; simp)
  obtain ⟨hhold, hev⟩ := hsound.reading hd hp
  have hun := hsound.unheld hd
  rw [hat.2.1] at hhold hev hun
  refine ⟨hhold, fun i hi => ?_⟩
  cases hr : (role s i).2 with
  | none => exact hun i (Prod.ext hi hr)
  | some m => exact hev i m (Prod.ext hi hr)

/-- Between `s` and `t` the fill of entry `e` of record `n` was done, and its line holds the record now. -/
structure FillDone (s t : State) (n : Nat) (e e' : Entry) : Prop where
  entry : e ∈ s.missTable
  number : e.number = n
  done : e'.number = n ∧ e'.target = e.target ∧ e'.fillDone = true
  table : ∀ x, x ∈ t.missTable ↔ x = e' ∨ x ∈ s.missTable ∧ x ≠ e
  filling : role s e.target = (none, some n)
  absent : ∀ i, (role s i).1 ≠ some n
  roles : ∀ j, role t j = if j = e.target then (some n, none) else role s j
  hold : t.hold = s.hold

namespace FillDone

variable {t : State} {n : Nat} {e e' : Entry}

theorem role_other (h : FillDone s t n e e') {j : Fin 64} {m : Nat} (hm : m ≠ n) (hj : (role t j).1 = some m) :
    role t j = role s j := by
  rw [h.roles] at hj ⊢
  split at hj
  · exact absurd (Option.some.inj hj).symm hm
  · rw [if_neg (by assumption)]

theorem role_target (h : FillDone s t n e e') {j : Fin 64} (hj : (role t j).1 = some n) : j = e.target := by
  by_contra hne
  rw [h.roles, if_neg hne] at hj
  exact h.absent j hj

theorem apart (h : FillDone s t n e e') (hs : StoreSound s) {x : Entry} (hx : x ∈ s.missTable) (hxe : x ≠ e) :
    x.number ≠ n ∧ role t x.target = role s x.target :=
  ⟨fun hxn => hxe (hs.entry_eq_of_number hx h.entry (hxn.trans h.number.symm)), by
    rw [h.roles, if_neg fun hxt => hxe (hs.entry_eq_of_target hx h.entry hxt)]⟩

/-- The other entries agree as before. -/
theorem entrySound (h : FillDone s t n e e') (hs : StoreSound s) {x : Entry} (hx : x ∈ s.missTable) (hxe : x ≠ e) :
    EntrySound t x := by
  obtain ⟨hxn, hxt⟩ := h.apart hs hx hxe
  have hold := hs.entries x hx
  constructor
  case done => exact fun hd => hxt.trans (hold.done hd)
  case reserved => exact fun hd => hxt ▸ hold.reserved hd
  case unheld => exact fun hd j hj => hold.unheld hd j (h.role_other hxn (by rw [hj]) ▸ hj)
  case reading =>
    intro hd hp
    obtain ⟨h1, h2⟩ := hold.reading hd hp
    exact ⟨by rw [h.hold]; exact h1, fun j m hj => h2 j m (h.role_other hxn (by rw [hj]) ▸ hj)⟩
  case waitEvict =>
    intro hd hp
    obtain ⟨j, m, hj⟩ := hold.waitEvict hd hp
    refine ⟨j, m, ?_⟩
    rw [h.roles, if_neg fun hje => ?_, hj]
    rw [hje, h.filling] at hj
    cases hj
  case waitSweep =>
    intro hd hp
    rw [h.hold]
    exact hold.waitSweep hd hp

/-- The entry itself agrees: its line holds its record. -/
theorem entrySound_done (h : FillDone s t n e e') : EntrySound t e' := by
  obtain ⟨hn, ht, hd⟩ := h.done
  have hrole : role t e'.target = (some e'.number, none) := by rw [h.roles, if_pos ht, hn]
  constructor <;> simp [hd, hrole]

end FillDone

/-- A fill read completes: its entry's fill is done and its target line holds the record (R73). -/
theorem fillDone (h : StoreSound s) {n : Nat} {e : Entry} {rest : List Txn} (damage : Damage)
    (hf : s.inFlight = .fill n :: rest) (he : findEntry s.missTable n = some e) :
    FillDone s (landed { s with inFlight := rest } n e.target damage) n e
        (filledEntry (formedBy { s with inFlight := rest } n .fill (!occupied s n) damage) e) ∧
      (landed { s with inFlight := rest } n e.target damage).missTable.map Entry.number =
        s.missTable.map Entry.number ∧
      (landed { s with inFlight := rest } n e.target damage).missTable.map Entry.target =
        s.missTable.map Entry.target := by
  obtain ⟨q, -, -, hlines, htable, hhold, -⟩ := landed_read { s with inFlight := rest } n e.target damage
  obtain ⟨before, after, hat, -, -, htarget⟩ := h.fill_entry hf he
  have htable' := htable.trans (updateEntry_of_entryAt hat _)
  obtain ⟨hsplit, hen, -⟩ := hat
  have hfresh : e ∉ before ++ after := fun hmem => by
    have hnd := h.numbers
    rw [hsplit, List.map_append, List.map_cons, List.nodup_middle, List.nodup_cons, ← List.map_append] at hnd
    exact hnd.1 (List.mem_map_of_mem hmem)
  refine ⟨⟨by rw [hsplit]; simp, hen, ⟨hen, rfl, rfl⟩, fun x => ?_, htarget, (h.fill_no_copy hf he).2, fun j => ?_,
    hhold⟩, ?_, ?_⟩
  · rw [htable', hsplit]
    simp only [List.mem_append, List.mem_cons] at hfresh ⊢
    constructor
    · rintro (hx | rfl | hx)
      · exact .inr ⟨.inl hx, fun hxe => hfresh (hxe ▸ .inl hx)⟩
      · exact .inl rfl
      · exact .inr ⟨.inr (.inr hx), fun hxe => hfresh (hxe ▸ .inr hx)⟩
    · rintro (rfl | ⟨hx | rfl | hx, hxe⟩)
      · exact .inr (.inl rfl)
      · exact .inl hx
      · exact absurd rfl hxe
      · exact .inr (.inr hx)
  · rw [role, hlines]
    exact role_set s e.target j _
  · rw [htable', hsplit, List.map_append, List.map_append, List.map_cons, List.map_cons]
    rfl
  · rw [htable', hsplit, List.map_append, List.map_append, List.map_cons, List.map_cons]
    rfl

/-- The store stays sound as a fill read completes (R73). -/
theorem landed (h : StoreSound s) {n : Nat} {e : Entry} {rest : List Txn} (damage : Damage)
    (hf : s.inFlight = .fill n :: rest) (he : findEntry s.missTable n = some e) :
    StoreSound (landed { s with inFlight := rest } n e.target damage) := by
  obtain ⟨q, hread, -, -, -, hhold, hreq⟩ := landed_read { s with inFlight := rest } n e.target damage
  obtain ⟨hdone, hnumbers, htargets⟩ := h.fillDone damage hf he
  have hnohold := (h.fill_no_copy hf he).1
  generalize filledEntry _ e = e' at *
  generalize formedBy _ n _ _ damage = f at *
  generalize Proofs.landed { s with inFlight := rest } n e.target damage = t at *
  have hfills : (fillsAsked s).Perm (n :: fillsAsked t) := by
    rw [(asked_cons hf).1, fillsAsked_eq t, hread.cacheQ, hread.inFlight]
    exact List.perm_middle
  have hsweeps : sweepsAsked t = sweepsAsked s := by
    rw [(asked_cons hf).2, sweepsAsked_eq, hreq, hread.inFlight]
    rfl
  have honce : n ∉ fillsAsked t ∧ (fillsAsked t).Nodup := List.nodup_cons.1 (hfills.nodup_iff.1 h.fillsOnce)
  constructor
  case numbers => exact hnumbers ▸ h.numbers
  case targets => exact htargets ▸ h.targets
  case targetUsed =>
    intro x hx
    rcases (hdone.table x).1 hx with rfl | ⟨hx, hxe⟩
    · rw [hdone.entrySound_done.done hdone.done.2.2]
      simp
    · rw [(hdone.apart h hx hxe).2]
      exact h.targetUsed x hx
  case reservedTarget =>
    intro j m hj
    rw [hdone.roles] at hj
    split at hj
    · cases hj
    · rename_i hje
      obtain ⟨x, hx, hxt⟩ := h.reservedTarget j m hj
      exact ⟨x, (hdone.table x).2 (.inr ⟨hx, fun hxe => hje (hxt ▸ hxe ▸ rfl)⟩), hxt⟩
  case oneCopy =>
    intro j k m hj hk
    by_cases hm : m = n
    · subst hm
      rw [hdone.role_target hj, hdone.role_target hk]
    · exact h.oneCopy j k m (hdone.role_other hm hj ▸ hj) (hdone.role_other hm hk ▸ hk)
  case holdApart =>
    intro j m hm hj
    rw [hhold] at hm
    have hne : m ≠ n := fun hmn => hnohold (hmn ▸ hm)
    exact h.holdApart j m hm (hdone.role_other hne hj ▸ hj)
  case entries =>
    intro x hx
    rcases (hdone.table x).1 hx with rfl | ⟨hx, hxe⟩
    · exact hdone.entrySound_done
    · exact hdone.entrySound h hx hxe
  case fillsOnce => exact honce.2
  case fillsAwaited =>
    intro m hm
    obtain ⟨x, hx, h1, h2, h3, h4⟩ := h.fillsAwaited m (hfills.mem_iff.2 (List.mem_cons_of_mem _ hm))
    have hxe : x ≠ e := fun hxe => honce.1 (by rw [← hdone.number, ← hxe, h1]; exact hm)
    exact ⟨x, (hdone.table x).2 (.inr ⟨hx, hxe⟩), h1, h2, h3, by rw [(hdone.apart h hx hxe).2]; exact h4⟩
  case oneSweep => exact hsweeps ▸ h.oneSweep
  case sweepRead => rw [hsweeps, hhold]; exact h.sweepRead
  case sweepWrite => rw [hsweeps, hhold]; exact h.sweepWrite
  case repairs =>
    rw [hread.inFlight, hread.pass]
    exact fun m r hm => h.repairs m r (hf ▸ List.mem_cons_of_mem _ hm)

/-- The sweep read in flight is that of the record in the Sweep Hold. -/
theorem sweepRead_hold (h : StoreSound s) {n : Nat} {rest : List Txn} (hf : s.inFlight = .sweepRead n :: rest) :
    s.hold = .reading n := h.sweepRead n (by rw [(asked_cons hf).2]; simp [flyingSweep])

/-- A sweep read completes: the working copy is in the Sweep Hold, and its write is asked for (R108). -/
theorem swept (h : StoreSound s) {n : Nat} {rest : List Txn} (damage : Damage) (v : VisitEvents)
    (hf : s.inFlight = .sweepRead n :: rest) :
    StoreSound (sweepVisited { s with inFlight := rest } n damage v) := by
  obtain ⟨q, hread, hlines, htable, hhold, hreq⟩ := swept_read { s with inFlight := rest } n damage v
  generalize sweepVisited { s with inFlight := rest } n damage v = t at *
  have hwas := h.sweepRead_hold hf
  have hnumber : t.hold.number = s.hold.number := by rw [hhold, hwas]; rfl
  have hrole (j : Fin 64) : role t j = role s j := by rw [role, hlines]; rfl
  have hfills : fillsAsked t = fillsAsked s := by
    rw [(asked_cons hf).1, fillsAsked_eq, hread.cacheQ, hread.inFlight]
    rfl
  have hasked : sweepsAsked t = [.write n] := by
    rw [sweepsAsked_eq, hreq, hread.inFlight, (h.sweep_alone hf rfl).2]
    rfl
  constructor
  case numbers => rw [htable]; exact h.numbers
  case targets => rw [htable]; exact h.targets
  case targetUsed => rw [htable]; simpa only [hrole] using h.targetUsed
  case reservedTarget => rw [htable]; simpa only [hrole] using h.reservedTarget
  case oneCopy => simpa only [hrole] using h.oneCopy
  case holdApart => simpa only [hrole, hnumber] using h.holdApart
  case entries =>
    rw [htable]
    exact fun e he => entrySound_congr rfl hrole hnumber (h.entries e he)
  case fillsOnce => exact hfills ▸ h.fillsOnce
  case fillsAwaited =>
    rw [hfills, htable]
    simpa only [Awaits, hrole] using h.fillsAwaited
  case oneSweep => rw [hasked]; simp
  case sweepRead =>
    intro m hm
    rw [hasked] at hm
    simp at hm
  case sweepWrite =>
    intro m hm
    rw [hasked, List.mem_singleton] at hm
    cases hm
    exact ⟨q, hhold⟩
  case repairs =>
    rw [hread.inFlight, hread.pass]
    exact fun m r hm => h.repairs m r (hf ▸ List.mem_cons_of_mem _ hm)

/-- The memory path keeps the store sound. -/
theorem memoryOp {t : State} (h : StoreSound s) (ho : MemoryOp s t) : StoreSound t := by
  cases ho with
  | issued hp => exact h.issued hp
  | evicted hf hl _ => exact h.evicted hf hl
  | landed damage hf he _ => exact h.landed damage hf he
  | swept damage during hf _ => exact h.swept damage during hf
  | released hf hh _ =>
    cases h.sweepWrite_hold hf hh
    exact h.released hf hh

end StoreSound

end Sys2Proof.Proofs

namespace Sys2Proof.Proofs

open Sys2Proof Sys2Proof.Machine Sys2Proof.Safety Sys2Proof.Laws

/-! ### The device-wide operations (R87, R98 to R100, R172) -/

theorem completeOperation_quiet (s : State) (p : List Byte) : Quiet s (completeOperation s p) := by
  obtain ⟨c, -, h⟩ | ⟨-, h⟩ := completeOperation_eq s p <;> rw [h]
  · exact answered_quiet _ _ _ _
  · exact { }

theorem lineAt_replicate (i : Fin 64) : lineAt (Vector.replicate 64 Line.empty) i = .empty := by simp [lineAt]

/-- What a RESUME pass comes to when it may have ended (R100, R176). -/
theorem finishResume_cases (s : State) :
    finishResume s = s ∨
      (∃ p, finishResume s = completeOperation (enterRunning s) p) ∧ s.inFlight = [] := by
  unfold finishResume
  split
  · split
    · rename_i h
      exact .inr ⟨⟨_, rfl⟩, h.2⟩
    · exact .inl rfl
  · exact .inl rfl

namespace StoreSound

variable {s t : State}

/-- The store's own fields are as they were. -/
theorem of_same (h : StoreSound s) (hl : t.lines = s.lines) (hm : t.missTable = s.missTable) (hh : t.hold = s.hold)
    (hf : (fillsAsked t).Perm (fillsAsked s)) (hs : (sweepsAsked t).Perm (sweepsAsked s))
    (hp : ∀ n r, .resumeWrite n r ∈ t.inFlight → isResume t.pass = true) : StoreSound t :=
  h.of_roles (fun i => by rw [role, hl]; rfl) (hm ▸ .refl _ _) hh hf hs hp

/-- With no entry no fill is asked for. -/
theorem no_fill (h : StoreSound s) (hm : s.missTable = []) : fillsAsked s = [] := by
  refine List.eq_nil_iff_forall_not_mem.2 fun n hn => ?_
  obtain ⟨e, he, -⟩ := h.fillsAwaited n hn
  rw [hm] at he
  cases he

/-- Every line comes to be EMPTY, with no entry left (R87, R172). -/
theorem of_empty (hm : t.missTable = []) (hl : ∀ i, lineAt t.lines i = .empty) (hf : fillsAsked t = [])
    (hone : (sweepsAsked t).length ≤ 1) (hr : ∀ n, .read n ∈ sweepsAsked t → t.hold = .reading n)
    (hw : ∀ n, .write n ∈ sweepsAsked t → ∃ r, t.hold = .writing n r)
    (hp : ∀ n r, .resumeWrite n r ∈ t.inFlight → isResume t.pass = true) : StoreSound t := by
  have hrole (i : Fin 64) : role t i = (none, none) := by rw [role, hl]; rfl
  refine ⟨by simp [hm], by simp [hm], by simp [hm], fun i n hi => ?_, fun i j n hi => ?_, fun i n _ hi => ?_,
    by simp [hm], by simp [hf], by simp [hf], hone, hr, hw, hp⟩ <;>
    simp [hrole] at hi

theorem issued_pass (h : StoreSound s) (hp : s.pass ≠ .none) : StoreSound (issueNext s) := by
  have flown {x : Txn} {p : Pass} (hfill : flyingFill x = none) (hsweep : flyingSweep x = none)
      (hrep : ∀ n r, .resumeWrite n r ∈ s.inFlight ++ [x] → isResume p = true) :
      StoreSound (fly { s with pass := p } x) := by
    refine h.of_same rfl rfl rfl ?_ ?_ hrep
    · rw [fillsAsked_eq, fillsAsked_eq]
      show (s.cacheQ.filterMap fillOf ++ (s.inFlight ++ [x]).filterMap flyingFill).Perm _
      simp [hfill]
    · rw [sweepsAsked_eq, sweepsAsked_eq]
      show (s.sweepReq.toList ++ (s.inFlight ++ [x]).filterMap flyingSweep).Perm _
      simp [hsweep]
  unfold issueNext
  split
  · rename_i next hpass
    split
    · refine flown rfl rfl fun n r hn => ?_
      simp only [List.mem_append, List.mem_singleton, reduceCtorEq, or_false] at hn
      have := h.repairs n r hn
      rw [hpass] at this
      exact this
    · exact h
  · exact flown rfl rfl fun _ _ _ => rfl
  · split
    · exact flown rfl rfl fun _ _ _ => rfl
    · exact h
  · rename_i hpass
    exact absurd hpass hp

/-- A transaction that is no store's leaves the requests of the store as they were. -/
theorem asked_of_rest {x : Txn} {rest : List Txn} (hf : s.inFlight = x :: rest) (hfill : flyingFill x = none)
    (hsweep : flyingSweep x = none) (hc : t.cacheQ = s.cacheQ) (hq : t.sweepReq = s.sweepReq)
    (hi : t.inFlight = rest) : fillsAsked t = fillsAsked s ∧ sweepsAsked t = sweepsAsked s := by
  obtain ⟨h1, h2⟩ := asked_cons hf
  rw [h1, h2, hfill, hsweep, fillsAsked_eq, sweepsAsked_eq, hc, hq, hi]
  exact ⟨rfl, rfl⟩

/-- A transaction that is no store's completes: the store's own fields are as they were. -/
theorem of_rest (h : StoreSound s) {x : Txn} {rest : List Txn} (hf : s.inFlight = x :: rest)
    (hfill : flyingFill x = none) (hsweep : flyingSweep x = none) (hl : t.lines = s.lines)
    (hm : t.missTable = s.missTable) (hh : t.hold = s.hold) (hc : t.cacheQ = s.cacheQ)
    (hq : t.sweepReq = s.sweepReq) (hi : t.inFlight = rest)
    (hp : ∀ n r, .resumeWrite n r ∈ rest → isResume t.pass = true) : StoreSound t := by
  obtain ⟨h1, h2⟩ := asked_of_rest hf hfill hsweep hc hq hi
  exact h.of_same hl hm hh (h1 ▸ .refl _) (h2 ▸ .refl _) (hi ▸ hp)

/-- The pass is over, with no repair in flight. -/
theorem enterRunning (h : StoreSound s) (hrep : ∀ n r, .resumeWrite n r ∉ s.inFlight) :
    StoreSound (enterRunning s) :=
  h.of_same rfl rfl rfl (.refl _) (.refl _) fun n r hn => absurd hn (hrep n r)

theorem formatWritten (h : StoreSound s) {n next : Nat} {rest : List Txn} (hf : s.inFlight = .formatWrite n :: rest)
    (hp : s.pass = .format next) : StoreSound (formatWritten { s with inFlight := rest } n) := by
  have hrep : ∀ n r, .resumeWrite n r ∉ rest := fun n r hn => by
    have := h.repairs n r (hf ▸ List.mem_cons_of_mem _ hn)
    rw [hp] at this
    cases this
  unfold Machine.formatWritten
  dsimp only
  split
  · unfold endFormat
    refine StoreSound.quiet ?_ (completeOperation_quiet _ _)
    exact h.of_rest hf rfl rfl rfl rfl rfl rfl rfl rfl fun n r hn => absurd hn (hrep n r)
  · exact h.of_rest hf rfl rfl rfl rfl rfl rfl rfl rfl fun n r hn => absurd hn (hrep n r)

theorem finishResume (h : StoreSound s) : StoreSound (finishResume s) := by
  obtain e | ⟨⟨p, e⟩, hempty⟩ := finishResume_cases s <;> rw [e]
  · exact h
  · exact StoreSound.quiet (h.enterRunning fun n r hn => by rw [hempty] at hn; cases hn) (completeOperation_quiet _ _)

theorem resumeRead (h : StoreSound s) {n next : Nat} {counts : StateCounts} {writes : List (Nat × Record)}
    {rest : List Txn} (damage : Damage) (hf : s.inFlight = .resumeRead n :: rest) :
    StoreSound (resumeJudged { s with inFlight := rest } n next counts writes damage) := by
  unfold resumeJudged
  dsimp only
  generalize hread : readImage { s with inFlight := rest } n .resume false damage = read
  obtain ⟨new, occupancy, owed, hoffer⟩ := (offerFaulted_frame read.1 n read.2).1
  rw [hoffer, ← hread]
  exact finishResume (h.of_rest hf rfl rfl rfl rfl rfl rfl rfl rfl fun _ _ _ => rfl)

theorem resumeWritten (h : StoreSound s) {n : Nat} {copy : Record} {rest : List Txn}
    (hf : s.inFlight = .resumeWrite n copy :: rest) :
    StoreSound (Machine.finishResume (writeImage { s with inFlight := rest } n copy)) :=
  finishResume (h.of_rest hf rfl rfl rfl rfl rfl rfl rfl rfl fun m r hm =>
    h.repairs m r (hf ▸ List.mem_cons_of_mem _ hm))

theorem emptyLines (h : StoreSound s) (hm : s.missTable = []) (k : Nat) : StoreSound (emptyLines s k) :=
  of_empty hm lineAt_replicate (h.no_fill hm) h.oneSweep h.sweepRead h.sweepWrite h.repairs

theorem restartWritten (h : StoreSound s) (hm : s.missTable = []) {i : Fin 64} {n requested : Nat} {copy : Record}
    {d f p : Bool} {rest : List Txn} (hf : s.inFlight = .writeBack i :: rest)
    (hl : lineAt s.lines i = .valid n copy d f p) :
    StoreSound (restartWritten { s with inFlight := rest } i n copy f p requested) := by
  have hwritten : StoreSound ((countWriteBack (writeImage { s with inFlight := rest } n copy)).setLine i
      (.valid n copy false f p)) := by
    obtain ⟨h1, h2⟩ := asked_of_rest (t := { s with inFlight := rest }) hf rfl rfl rfl rfl rfl
    refine h.of_roles (fun j => role_valid hl j) (.refl _ _) rfl (h1 ▸ .refl _) (h2 ▸ .refl _) fun m r hm => ?_
    exact h.repairs m r (hf ▸ List.mem_cons_of_mem _ hm)
  unfold Machine.restartWritten
  dsimp only
  split
  · exact hwritten.emptyLines hm _
  · exact hwritten

theorem writeBacksRequested (h : StoreSound s) (hd : drained s = true) : StoreSound (requestWriteBacks s) := by
  have hm : s.missTable = [] := by
    unfold drained at hd
    simp only [Bool.and_eq_true, List.isEmpty_iff] at hd
    exact hd.1.2
  unfold requestWriteBacks
  split
  · exact h.emptyLines hm 0
  · refine h.of_same rfl rfl rfl ?_ (.refl _) h.repairs
    rw [fillsAsked_eq, fillsAsked_eq]
    show ((s.cacheQ ++ (dirtyLines s).map CacheReq.writeBack).filterMap fillOf ++ _).Perm _
    have hnone : ((dirtyLines s).map CacheReq.writeBack).filterMap fillOf = [] := by simp [fillOf]
    rw [List.filterMap_append, hnone, List.append_nil]
    exact .refl _

theorem restartEnded (h : StoreSound s) (k : Nat) : StoreSound (endRestart s k) := by
  unfold endRestart
  refine StoreSound.quiet ?_ (completeOperation_quiet _ _)
  exact h.of_same rfl rfl rfl (.refl _) (.refl _) h.repairs

/-- In CONFIG no pass is in progress, and so no repair is in flight. -/
theorem no_repair_of_config (h : StoreSound s) (hc : Coherent s) (hd : s.device = .config) (n : Nat) (r : Record) :
    .resumeWrite n r ∉ s.inFlight := fun hn => by
  have hagrees := hc.1
  unfold OperationAgrees at hagrees
  rw [hd] at hagrees
  have := h.repairs n r hn
  rw [hagrees.2.1] at this
  cases this

/-- The device-wide operations keep the store sound. -/
theorem deviceOp (h : StoreSound s) (hc : Coherent s) (ho : DeviceOp s t) : StoreSound t := by
  cases ho with
  | reset asserted linkWaits memory =>
    refine of_empty rfl lineAt_replicate rfl ?_ ?_ ?_ ?_ <;>
      simp [sweepsAsked_eq, resetDevice, State.reset]
  | configured _ _ => exact h.of_same rfl rfl rfl (.refl _) (.refl _) h.repairs
  | formatBegun hd =>
    exact h.of_same rfl rfl rfl (.refl _) (.refl _) fun n r hn => absurd hn (h.no_repair_of_config hc hd n r)
  | resumeBegun _ => exact h.of_same rfl rfl rfl (.refl _) (.refl _) fun _ _ _ => rfl
  | restartBegun _ => exact h.of_same rfl rfl rfl (.refl _) (.refl _) h.repairs
  | passIssued hp => exact h.issued_pass hp
  | formatWritten hf hp => exact h.formatWritten hf hp
  | resumeRead damage hf _ => exact h.resumeRead damage hf
  | resumeWritten hf => exact h.resumeWritten hf
  | restartWritten hf hl hr =>
    have hdrain := hc.2 (by rw [hr]; rfl)
    exact h.restartWritten hdrain.2.2.2 hf hl
  | writeBacksRequested hd => exact h.writeBacksRequested hd
  | restartEnded _ => exact h.restartEnded _

/-- What opens an event keeps the store sound. -/
theorem opening (h : StoreSound s) (hc : Coherent s) (ho : Opening s t) : StoreSound t := by
  cases ho with
  | nothing => exact h
  | memory hm => exact h.memoryOp hm
  | device hd => exact h.deviceOp hc hd

/-- Every event keeps the store sound. -/
theorem taken (h : StoreSound s) (hc : Coherent s) (ht : Taken s t) : StoreSound t := by
  obtain ⟨u, ho, ha⟩ := ht
  exact (h.opening hc ho).acts ha

end StoreSound

/-- Settles O54: every step is an opening and operations of the Record Store, each of which keeps the store sound. -/
theorem storeStaysInAgreement : Obligations.StoreStaysInAgreement := by
  unfold Obligations.StoreStaysInAgreement
  intro s t hc he ha hstep
  obtain ⟨l, ht⟩ := step_taken hstep
  have hs : StoreSound { s with pending := l } := (storeSound_iff _).2 ⟨he, ha⟩
  exact ((storeSound_iff t).1 (hs.taken hc ht)).2

end Sys2Proof.Proofs

/-! SUPPORT. The record numbers that the part holds (R1, R18, R60): every operation keeps them below a bound that covers the
capacity. -/

namespace Sys2Proof.Proofs

open Sys2Proof Sys2Proof.Machine Sys2Proof.Safety Sys2Proof.Laws

/-! ### The numbers held, place by place -/

/-- Every record number that the part holds is below `b`, place by place. -/
structure NumbersIn (b : Nat) (s : State) : Prop where
  lines : ∀ i n, n ∈ lineNumbers (lineAt s.lines i) → n < b
  table : ∀ e ∈ s.missTable, e.number < b
  hold : ∀ n, s.hold.number = some n → n < b
  cacheQ : ∀ q ∈ s.cacheQ, ∀ n ∈ requestNumbers q, n < b
  sweepReq : ∀ q, s.sweepReq = some q → ∀ n ∈ sweepNumbers q, n < b
  inFlight : ∀ x ∈ s.inFlight, ∀ n ∈ flightNumbers x, n < b
  stage : ∀ x, s.stage = some x → ∀ n ∈ stageNumbers x, n < b
  occupancy : ∀ n ∈ s.occupancy, n < b
  pass : ∀ n ∈ passNumbers s.pass, n < b
  engine : ∀ n ∈ engineNumbers s.engine, n < b

theorem numbersIn_iff (b : Nat) (s : State) : NumbersIn b s ↔ ∀ n ∈ numbersHeld s, n < b := by
  constructor
  · rintro ⟨h1, h2, h3, h4, h5, h6, h7, h8, h9, h10⟩ n hn
    rcases mem_numbersHeld.1 hn with ⟨i, h⟩ | ⟨e, he, rfl⟩ | h | ⟨q, hq, h⟩ | ⟨q, hq, h⟩ | ⟨x, hx, h⟩ | ⟨x, hx, h⟩ | h |
      h | h
    · exact h1 i n h
    · exact h2 e he
    · exact h3 n h
    · exact h4 q hq n h
    · exact h5 q hq n h
    · exact h6 x hx n h
    · exact h7 x hx n h
    · exact h8 n h
    · exact h9 n h
    · exact h10 n h
  · intro h
    have held {n : Nat} (hn : (∃ i, n ∈ lineNumbers (lineAt s.lines i)) ∨ (∃ e ∈ s.missTable, e.number = n) ∨
        s.hold.number = some n ∨ (∃ q ∈ s.cacheQ, n ∈ requestNumbers q) ∨
        (∃ q, s.sweepReq = some q ∧ n ∈ sweepNumbers q) ∨ (∃ x ∈ s.inFlight, n ∈ flightNumbers x) ∨
        (∃ x, s.stage = some x ∧ n ∈ stageNumbers x) ∨ n ∈ s.occupancy ∨ n ∈ passNumbers s.pass ∨
        n ∈ engineNumbers s.engine) : n < b := h n (mem_numbersHeld.2 hn)
    constructor
    case lines => exact fun i n hn => held (.inl ⟨i, hn⟩)
    case table => exact fun e he => held (.inr (.inl ⟨e, he, rfl⟩))
    case hold => exact fun n hn => held (.inr (.inr (.inl hn)))
    case cacheQ => exact fun q hq n hn => held (.inr (.inr (.inr (.inl ⟨q, hq, hn⟩))))
    case sweepReq => exact fun q hq n hn => held (.inr (.inr (.inr (.inr (.inl ⟨q, hq, hn⟩)))))
    case inFlight => exact fun x hx n hn => held (.inr (.inr (.inr (.inr (.inr (.inl ⟨x, hx, hn⟩))))))
    case stage => exact fun x hx n hn => held (.inr (.inr (.inr (.inr (.inr (.inr (.inl ⟨x, hx, hn⟩)))))))
    case occupancy => exact fun n hn => held (.inr (.inr (.inr (.inr (.inr (.inr (.inr (.inl hn))))))))
    case pass => exact fun n hn => held (.inr (.inr (.inr (.inr (.inr (.inr (.inr (.inr (.inl hn)))))))))
    case engine => exact fun n hn => held (.inr (.inr (.inr (.inr (.inr (.inr (.inr (.inr (.inr hn)))))))))

/-- The capacity and every record number that the part holds are below `b`, and every rule lies within the capacity. -/
structure NumbersBelow (b : Nat) (s : State) : Prop where
  capacity : s.setup.capacity ≤ b
  rules : RulesFit s
  held : NumbersIn b s

theorem numbersExist_iff (s : State) : NumbersExist s ↔ NumbersBelow Config.maxRecords s := by
  constructor
  · rintro ⟨h1, h2, h3⟩
    exact ⟨h1, h2, (numbersIn_iff _ _).2 h3⟩
  · rintro ⟨h1, h2, h3⟩
    exact ⟨h1, h2, (numbersIn_iff _ _).1 h3⟩

theorem recordsFit_iff (s : State) : RecordsFit s ↔ NumbersBelow s.setup.capacity s := by
  constructor
  · rintro ⟨h1, h2⟩
    exact ⟨Nat.le_refl _, h1, (numbersIn_iff _ _).2 h2⟩
  · rintro ⟨-, h1, h2⟩
    exact ⟨h1, (numbersIn_iff _ _).1 h2⟩

theorem mem_lineNumbers (l : Line) (n : Nat) :
    n ∈ lineNumbers l ↔ (roleOf l).1 = some n ∨ (roleOf l).2 = some n := by
  cases l <;> simp [lineNumbers, eq_comm]

namespace NumbersBelow

variable {b : Nat} {s t : State}

theorem of_reached (h : NumbersBelow b s) {n : Nat} (hn : Reached s n) : n < b := by
  rcases hn h.rules with hn | hn
  · exact (numbersIn_iff _ _).1 h.held n hn
  · exact Nat.lt_of_lt_of_le hn h.capacity

/-! ### The operations of the Record Store -/

theorem quiet (h : NumbersBelow b s) (hq : Quiet s t) : NumbersBelow b t := by
  refine ⟨hq.setup ▸ h.capacity, hq.rules h.rules, ?_⟩
  constructor
  case lines => rw [hq.lines]; exact h.held.lines
  case table =>
    intro e he
    obtain ⟨x, hx, hb⟩ := List.mem_map.1 (hq.table.sub.subset (List.mem_map_of_mem he))
    rw [(StoreSound.bare_eq hb.symm).1]
    exact h.held.table x hx
  case hold => rw [hq.hold]; exact h.held.hold
  case cacheQ => rw [hq.cacheQ]; exact h.held.cacheQ
  case sweepReq => rw [hq.sweepReq]; exact h.held.sweepReq
  case inFlight => rw [hq.inFlight]; exact h.held.inFlight
  case stage => exact fun x hx n hn => h.of_reached (hq.stage x hx n hn)
  case occupancy => rw [hq.occupancy]; exact h.held.occupancy
  case pass => rw [hq.pass]; exact h.held.pass
  case engine => exact fun n hn => h.of_reached (hq.engine n hn)

/-- A change of record `n`'s copy sets at most its own map entry. -/
theorem occupancy_of_change {n : Nat} {r q : Record} (hc : CopyChange n s r t q) (ho : ∀ m ∈ s.occupancy, m < b)
    (hn : n < b) : ∀ m ∈ t.occupancy, m < b := fun m hm => by
  by_cases hmn : m = n
  · exact hmn ▸ hn
  · exact ho m ((hc.others m hmn).1 hm)

theorem lines_set {i : Fin 64} {l : Line} (h : NumbersIn b s) (hl : ∀ n ∈ lineNumbers l, n < b) (j : Fin 64) (n : Nat)
    (hn : n ∈ lineNumbers (lineAt (s.lines.set i.val l i.isLt) j)) : n < b := by
  rw [lineAt_set] at hn
  split at hn
  · exact hl n hn
  · exact h.lines j n hn

theorem opened (h : NumbersBelow b s) {n : Nat} {ph : Phase} {w : Waiter} (hn : Reached s n)
    (ho : openEntry s n ph w = some t) : NumbersBelow b t := by
  obtain ⟨v, ho⟩ := openedFrom_of_openEntry ho
  have hnb := h.of_reached hn
  have hr := ho.reserved
  refine ⟨ho.setup ▸ h.capacity, ?_, ?_⟩
  · unfold RulesFit
    rw [ho.rules, ho.setup]
    exact h.rules
  constructor
  case lines =>
    intro i m hm
    rcases (mem_lineNumbers _ _).1 hm with hm | hm
    · exact h.held.lines i m ((mem_lineNumbers _ _).2 (.inl (hr.copy_before hm)))
    · by_cases hi : i = v.target
      · have hres := hr.reserved
        rw [← hi, show (role t i).2 = some m from hm] at hres
        cases hres
        exact hnb
      · refine h.held.lines i m ((mem_lineNumbers _ _).2 (.inr ?_))
        rw [show roleOf (lineAt s.lines i) = roleOf (lineAt t.lines i) from (hr.others i hi).symm]
        exact hm
  case table =>
    rw [ho.table]
    intro e he
    rcases List.mem_append.1 he with he | he
    · exact h.held.table e he
    · rw [List.mem_singleton.1 he]
      exact hnb
  case hold => rw [ho.hold]; exact h.held.hold
  case cacheQ =>
    rw [ho.cacheQ]
    intro q hq m hm
    rcases List.mem_append.1 hq with hq | hq
    · rcases List.mem_append.1 hq with hq | hq
      · exact h.held.cacheQ q hq m hm
      · obtain ⟨⟨-, hv⟩ | ⟨-, -, -, hv⟩, -, -⟩ := selectVictim_some ho.victim
        · rw [hv] at hq
          cases hq
        · rw [hv, List.mem_singleton] at hq
          rw [hq] at hm
          cases hm
    · split at hq
      · rw [List.mem_singleton.1 hq] at hm
        rw [List.mem_singleton.1 hm]
        exact hnb
      · cases hq
  case sweepReq => rw [ho.sweepReq]; exact h.held.sweepReq
  case inFlight => rw [ho.inFlight]; exact h.held.inFlight
  case stage => rw [ho.stage]; exact h.held.stage
  case occupancy => rw [ho.occupancy]; exact h.held.occupancy
  case pass => rw [ho.pass]; exact h.held.pass
  case engine => rw [ho.engine]; exact h.held.engine

theorem storeOp (h : NumbersBelow b s) (ho : StoreOp s t) : NumbersBelow b t := by
  cases ho with
  | quiet hq => exact h.quiet hq
  | @claimed i n r q d f p d' f' p' u line _ change =>
    have hn : n < b := h.held.lines i n (by rw [line]; simp [lineNumbers])
    have hl : ∀ m ∈ lineNumbers (.valid n q d' f' p'), m < b := fun m hm => by
      rw [List.mem_singleton.1 hm]
      exact hn
    exact ⟨h.capacity, h.rules,
      { h.held with
        lines := lines_set h.held hl
        occupancy := fun m hm => occupancy_of_change change h.held.occupancy hn m hm }⟩
  | opened _ _ hn hopen => exact h.opened hn hopen
  | @sweepBegun n _ hocc _ =>
    have hn := h.held.occupancy n hocc
    refine ⟨h.capacity, h.rules, { h.held with hold := fun m hm => ?_, sweepReq := fun q hq m hm => ?_ }⟩
    · cases hm
      exact hn
    · cases hq
      rw [List.mem_singleton.1 hm]
      exact hn

theorem acts (h : NumbersBelow b s) (ha : Acts s t) : NumbersBelow b t := by
  induction ha with
  | refl => exact h
  | tail _ ho ih => exact ih.storeOp ho

/-! ### The memory path -/

/-- The transactions behind the oldest one in flight. -/
theorem rest (h : NumbersBelow b s) {x : Txn} {rest : List Txn} (hf : s.inFlight = x :: rest) :
    (∀ n ∈ flightNumbers x, n < b) ∧ NumbersBelow b { s with inFlight := rest } :=
  ⟨h.held.inFlight x (by rw [hf]; simp), h.capacity, h.rules,
    { h.held with inFlight := fun y hy => h.held.inFlight y (by rw [hf]; exact List.mem_cons_of_mem _ hy) }⟩

/-- What a request asks for goes in flight. -/
theorem fly (h : NumbersBelow b s) {x : Txn} (hx : ∀ n ∈ flightNumbers x, n < b) : NumbersBelow b (fly s x) := by
  refine ⟨h.capacity, h.rules, { h.held with inFlight := fun y hy => ?_ }⟩
  rcases List.mem_append.1 hy with hy | hy
  · exact h.held.inFlight y hy
  · rw [List.mem_singleton.1 hy]
    exact hx

theorem issued (h : NumbersBelow b s) (hp : s.pass = .none) : NumbersBelow b (issueNext s) := by
  obtain ⟨q, rest, hq, e⟩ | ⟨q, hq, e⟩ | e := issueNext_of_none hp <;> rw [e]
  · have hrest : NumbersBelow b { s with cacheQ := rest } :=
      ⟨h.capacity, h.rules,
        { h.held with cacheQ := fun y hy => h.held.cacheQ y (by rw [hq]; exact List.mem_cons_of_mem _ hy) }⟩
    refine hrest.fly fun n hn => h.held.cacheQ q (by rw [hq]; simp) n ?_
    cases q <;> exact hn
  · have hrest : NumbersBelow b { s with sweepReq := none } :=
      ⟨h.capacity, h.rules, { h.held with sweepReq := fun y hy => by cases hy }⟩
    refine hrest.fly fun n hn => h.held.sweepReq q hq n ?_
    cases q <;> exact hn
  · exact h

/-- A completed write, as far as it leaves the lines and the Sweep Hold within the bound. -/
theorem imageWritten (h : NumbersBelow b s) {n : Nat} {ph : Phase} {copy : Record} (hw : ImageWritten s t n ph copy)
    (hl : ∀ i m, m ∈ lineNumbers (lineAt t.lines i) → m < b) (hh : ∀ m, t.hold.number = some m → m < b)
    (hi : t.inFlight = s.inFlight) : NumbersBelow b t := by
  refine ⟨hw.setup ▸ h.capacity, ?_, ?_⟩
  · unfold RulesFit
    rw [hw.rules, hw.setup]
    exact h.rules
  constructor
  case lines => exact hl
  case table =>
    rw [hw.table]
    intro e he
    obtain ⟨x, hx, rfl⟩ := List.mem_map.1 he
    rw [(movedOn_same n ph x).1]
    exact h.held.table x hx
  case hold => exact hh
  case cacheQ =>
    obtain ⟨new, hq, -, hnew⟩ := hw.cacheQ
    rw [hq]
    intro q hq' m hm
    rcases List.mem_append.1 hq' with hq' | hq'
    · exact h.held.cacheQ q hq' m hm
    · obtain ⟨e, he, rfl⟩ := hnew q hq'
      rw [List.mem_singleton.1 hm]
      exact h.held.table e he
  case sweepReq => rw [hw.sweepReq]; exact h.held.sweepReq
  case inFlight => rw [hi]; exact h.held.inFlight
  case stage => rw [hw.stage]; exact h.held.stage
  case occupancy => rw [hw.occupancy]; exact h.held.occupancy
  case pass => rw [hw.pass]; exact h.held.pass
  case engine => rw [hw.engine]; exact h.held.engine

/-- A completed read of record `n`, as far as it leaves lines, entries, Sweep Hold and sweep request within the bound. -/
theorem readFrom (h : NumbersBelow b s) {n : Nat} {damage : Damage} {f : Formed} {q : Record} (hn : n < b)
    (hr : ReadFrom s t n damage f q) (hl : ∀ i m, m ∈ lineNumbers (lineAt t.lines i) → m < b)
    (ht : ∀ e ∈ t.missTable, e.number < b) (hh : ∀ m, t.hold.number = some m → m < b)
    (hs : ∀ q, t.sweepReq = some q → ∀ m ∈ sweepNumbers q, m < b) : NumbersBelow b t := by
  refine ⟨hr.setup ▸ h.capacity, ?_, ?_⟩
  · unfold RulesFit
    rw [hr.rules, hr.setup]
    exact h.rules
  constructor
  case lines => exact hl
  case table => exact ht
  case hold => exact hh
  case cacheQ => rw [hr.cacheQ]; exact h.held.cacheQ
  case sweepReq => exact hs
  case inFlight => rw [hr.inFlight]; exact h.held.inFlight
  case stage => rw [hr.stage]; exact h.held.stage
  case occupancy => exact occupancy_of_change hr.change h.held.occupancy hn
  case pass => rw [hr.pass]; exact h.held.pass
  case engine => rw [hr.engine]; exact h.held.engine

theorem mem_updateEntry {l : List Entry} {n : Nat} {f : Entry → Option Entry} {x : Entry}
    (h : x ∈ updateEntry l n f) : x ∈ l ∨ ∃ e ∈ l, f e = some x := by
  induction l with
  | nil => cases h
  | cons a l ih =>
    unfold updateEntry at h
    split at h
    · split at h
      · rename_i e' he
        rcases List.mem_cons.1 h with rfl | h
        · exact .inr ⟨a, List.mem_cons_self, he⟩
        · exact .inl (List.mem_cons_of_mem _ h)
      · exact .inl (List.mem_cons_of_mem _ h)
    · rcases List.mem_cons.1 h with rfl | h
      · exact .inl List.mem_cons_self
      · rcases ih h with h | ⟨e, he, hf⟩
        · exact .inl (List.mem_cons_of_mem _ h)
        · exact .inr ⟨e, List.mem_cons_of_mem _ he, hf⟩

theorem memoryOp (h : NumbersBelow b s) (ho : MemoryOp s t) : NumbersBelow b t := by
  cases ho with
  | issued hp => exact h.issued hp
  | @evicted i old reserved copy rest hf hl _ =>
    obtain ⟨himage, hlines, hhold, hflight⟩ := evictionWritten_image { s with inFlight := rest } i old copy reserved
    have hres : ∀ m ∈ lineNumbers (.filling reserved), m < b := fun m hm =>
      h.held.lines i m (by rw [hl]; simp_all [lineNumbers])
    refine (h.rest hf).2.imageWritten himage ?_ (by rw [hhold]; exact h.held.hold) hflight
    rw [hlines]
    exact lines_set (h.rest hf).2.held hres
  | @landed n e rest damage hf _ _ =>
    obtain ⟨q, hread, -, hlines, htable, hhold, hreq⟩ := landed_read { s with inFlight := rest } n e.target damage
    obtain ⟨hnumbers, hrest⟩ := h.rest hf
    have hn : n < b := hnumbers n (by simp [flightNumbers])
    refine hrest.readFrom hn hread ?_ ?_ (by rw [hhold]; exact h.held.hold) (by rw [hreq]; exact h.held.sweepReq)
    · rw [hlines]
      refine lines_set hrest.held fun m hm => ?_
      rw [List.mem_singleton.1 hm]
      exact hn
    · rw [htable]
      intro x hx
      rcases mem_updateEntry hx with hx | ⟨y, hy, hyx⟩
      · exact h.held.table x hx
      · cases hyx
        exact h.held.table y hy
  | @swept n rest damage during hf _ =>
    obtain ⟨q, hread, hlines, htable, hhold, hreq⟩ := swept_read { s with inFlight := rest } n damage during
    obtain ⟨hnumbers, hrest⟩ := h.rest hf
    have hn : n < b := hnumbers n (by simp [flightNumbers])
    refine hrest.readFrom hn hread (by rw [hlines]; exact h.held.lines) (by rw [htable]; exact h.held.table) ?_ ?_
    · rw [hhold]
      intro m hm
      cases hm
      exact hn
    · rw [hreq]
      intro y hy m hm
      cases hy
      rw [List.mem_singleton.1 hm]
      exact hn
  | @released n m copy rest hf _ _ =>
    obtain ⟨himage, hlines, hhold, hflight⟩ := released_image { s with inFlight := rest } n copy
    refine (h.rest hf).2.imageWritten himage (by rw [hlines]; exact h.held.lines) ?_ hflight
    rw [hhold]
    intro k hk
    cases hk

end NumbersBelow

end Sys2Proof.Proofs

namespace Sys2Proof.Proofs

open Sys2Proof Sys2Proof.Machine Sys2Proof.Safety Sys2Proof.Laws

/-! ### The device-wide operations keep every record number within the record memory (R1, R60, R87, R98 to R100) -/

namespace NumbersBelow

variable {b : Nat} {s t : State}

theorem of_reset (hb : 4096 ≤ b) (asserted linkWaits : Bool) (memory : Memory) :
    NumbersBelow b { resetDevice s asserted linkWaits with memory := memory } := by
  refine ⟨hb, ?_, ?_⟩
  · intro k
    show ((Vector.replicate 16 Rule.initial)[k]).recordBase + ((Vector.replicate 16 Rule.initial)[k]).rangeLength ≤ 4096
    simp [Rule.initial]
  constructor
  case lines =>
    intro i n hn
    have hempty := lineAt_replicate i ▸ (show n ∈ lineNumbers (lineAt (Vector.replicate 64 Line.empty) i) from hn)
    cases hempty
  all_goals simp [resetDevice, State.reset, SweepHold.number, passNumbers, engineNumbers]

/-- What SETUP allows is one of three capacities, within which every rule lies (R48, R54). -/
theorem configured (h : NumbersBelow b s) {p : SetupParams} (hb : 16384 ≤ b) (ha : setupAllowed s p = true) :
    NumbersBelow b { s with setup := p } := by
  unfold setupAllowed at ha
  simp only [Bool.and_eq_true, Bool.or_eq_true, beq_iff_eq, List.all_eq_true, decide_eq_true_eq] at ha
  obtain ⟨⟨⟨⟨⟨⟨⟨hcap, -⟩, -⟩, -⟩, -⟩, -⟩, -⟩, hrules⟩ := ha
  refine ⟨?_, fun k => hrules _ (by simp), { h.held with }⟩
  show p.capacity ≤ b
  omega

/-- A pass's next request is for a record below the capacity, or for a repair it remembers. -/
theorem issued_pass (h : NumbersBelow b s) (hp : s.pass ≠ .none) : NumbersBelow b (issueNext s) := by
  have asked {p : Pass} {x : Txn} (hpass : ∀ n ∈ passNumbers p, n < b) (hx : ∀ n ∈ flightNumbers x, n < b) :
      NumbersBelow b (Machine.fly { s with pass := p } x) :=
    NumbersBelow.fly (s := { s with pass := p }) ⟨h.capacity, h.rules, { h.held with pass := hpass }⟩ hx
  have next_lt {next : Nat} (hnext : next < s.setup.capacity) : ∀ n ∈ [next], n < b := fun n hn => by
    rw [List.mem_singleton.1 hn]
    exact Nat.lt_of_lt_of_le hnext h.capacity
  have hrepairs := h.held.pass
  unfold issueNext
  split
  · split
    · exact asked (fun _ hn => by cases hn) (next_lt (by assumption))
    · exact h
  · rename_i n copy writes hpass
    rw [hpass] at hrepairs
    refine asked (fun m hm => hrepairs m (List.mem_cons_of_mem _ hm)) fun m hm => ?_
    rw [List.mem_singleton.1 hm]
    exact hrepairs n List.mem_cons_self
  · split
    · exact asked (fun _ hn => by cases hn) (next_lt (by assumption))
    · exact h
  · rename_i hpass
    exact absurd hpass hp

theorem completeOperation (h : NumbersBelow b s) (p : List Byte) : NumbersBelow b (completeOperation s p) :=
  h.quiet (completeOperation_quiet s p)

theorem enterRunning (h : NumbersBelow b s) : NumbersBelow b (enterRunning s) :=
  ⟨h.capacity, h.rules, { h.held with pass := fun n hn => by cases hn }⟩

theorem finishResume (h : NumbersBelow b s) : NumbersBelow b (finishResume s) := by
  obtain e | ⟨⟨p, e⟩, -⟩ := finishResume_cases s <;> rw [e]
  · exact h
  · exact h.enterRunning.completeOperation p

theorem writeImage (h : NumbersBelow b s) (n : Nat) (r : Record) : NumbersBelow b (writeImage s n r) :=
  ⟨h.capacity, h.rules, { h.held with }⟩

theorem countWriteBack (h : NumbersBelow b s) : NumbersBelow b (countWriteBack s) :=
  ⟨h.capacity, h.rules, { h.held with }⟩

theorem setLine (h : NumbersBelow b s) {i : Fin 64} {l : Line} (hl : ∀ n ∈ lineNumbers l, n < b) :
    NumbersBelow b (s.setLine i l) :=
  ⟨h.capacity, h.rules, { h.held with lines := lines_set h.held hl }⟩

theorem formatWritten (h : NumbersBelow b s) (n : Nat) : NumbersBelow b (formatWritten s n) := by
  unfold Machine.formatWritten
  dsimp only
  split
  · refine completeOperation (enterRunning ?_) _
    exact ⟨h.capacity, h.rules, { h.held with occupancy := fun m hm => by cases hm }⟩
  · exact h.writeImage n _

theorem resumeJudged (h : NumbersBelow b s) {n next : Nat} {counts : StateCounts} {writes : List (Nat × Record)}
    (hn : n < b) (hp : s.pass = .resume next counts writes) (damage : Damage) :
    NumbersBelow b (resumeJudged s n next counts writes damage) := by
  have hrepairs := h.held.pass
  rw [hp] at hrepairs
  unfold Machine.resumeJudged
  dsimp only
  generalize hread : readImage s n .resume false damage = read
  obtain ⟨new, occupancy, owed, hoffer⟩ := (offerFaulted_frame read.1 n read.2).1
  rw [hoffer, ← hread]
  refine finishResume ⟨h.capacity, h.rules, { h.held with occupancy := fun m hm => ?_, pass := fun m hm => ?_ }⟩
  · simp only at hm
    split at hm
    · exact h.held.occupancy m hm
    · rcases (mem_occSet _ _ _).1 hm with rfl | hm
      · exact hn
      · exact h.held.occupancy m hm
  · simp only [passNumbers, List.map_append, List.mem_append] at hm
    rcases hm with hm | hm
    · exact hrepairs m hm
    · split at hm
      · rw [List.mem_singleton.1 hm]
        exact hn
      · cases hm

theorem emptyLines (h : NumbersBelow b s) (k : Nat) : NumbersBelow b (emptyLines s k) := by
  refine ⟨h.capacity, h.rules, { h.held with lines := fun i n hn => ?_ }⟩
  have hempty := lineAt_replicate i ▸ (show n ∈ lineNumbers (lineAt (Vector.replicate 64 Line.empty) i) from hn)
  cases hempty

theorem restartWritten (h : NumbersBelow b s) {i : Fin 64} {n requested : Nat} {copy : Record} {d f p : Bool}
    (hl : lineAt s.lines i = .valid n copy d f p) : NumbersBelow b (restartWritten s i n copy f p requested) := by
  have hn : ∀ m ∈ lineNumbers (.valid n copy false f p), m < b := by
    have hline := h.held.lines i
    rw [hl] at hline
    exact hline
  have hwritten : NumbersBelow b ((Machine.countWriteBack (Machine.writeImage s n copy)).setLine i
      (.valid n copy false f p)) := (h.writeImage n copy).countWriteBack.setLine hn
  unfold Machine.restartWritten
  dsimp only
  split
  · exact hwritten.emptyLines _
  · exact hwritten

theorem writeBacksRequested (h : NumbersBelow b s) : NumbersBelow b (requestWriteBacks s) := by
  unfold requestWriteBacks
  split
  · exact h.emptyLines 0
  · refine ⟨h.capacity, h.rules, { h.held with cacheQ := fun q hq n hn => ?_ }⟩
    rcases List.mem_append.1 hq with hq | hq
    · exact h.held.cacheQ q hq n hn
    · obtain ⟨i, -, rfl⟩ := List.mem_map.1 hq
      cases hn

theorem restartEnded (h : NumbersBelow b s) (k : Nat) : NumbersBelow b (endRestart s k) := by
  unfold endRestart
  refine completeOperation ?_ _
  exact ⟨h.capacity, h.rules, { h.held with occupancy := fun m hm => by cases hm }⟩

theorem deviceOp (h : NumbersBelow Config.maxRecords s) (ho : DeviceOp s t) : NumbersBelow Config.maxRecords t := by
  cases ho with
  | reset asserted linkWaits memory => exact of_reset (by decide) _ _ _
  | configured _ allowed => exact h.configured (Nat.le_refl _) allowed
  | formatBegun _ =>
    exact ⟨h.capacity, h.rules,
      { h.held with pass := fun n hn => (by cases hn), engine := fun n hn => (by cases hn) }⟩
  | resumeBegun _ =>
    exact ⟨h.capacity, h.rules,
      { h.held with pass := fun n hn => (by cases hn), engine := fun n hn => (by cases hn) }⟩
  | restartBegun _ => exact ⟨h.capacity, h.rules, { h.held with engine := fun n hn => by cases hn }⟩
  | passIssued hp => exact h.issued_pass hp
  | formatWritten hf _ => exact (h.rest hf).2.formatWritten _
  | resumeRead damage hf hp => exact (h.rest hf).2.resumeJudged ((h.rest hf).1 _ (by simp [flightNumbers])) hp damage
  | resumeWritten hf => exact ((h.rest hf).2.writeImage _ _).finishResume
  | restartWritten hf hl _ => exact (h.rest hf).2.restartWritten hl
  | writeBacksRequested _ => exact h.writeBacksRequested
  | restartEnded _ => exact h.restartEnded _

theorem opening (h : NumbersBelow Config.maxRecords s) (ho : Opening s t) : NumbersBelow Config.maxRecords t := by
  cases ho with
  | nothing => exact h
  | memory hm => exact h.memoryOp hm
  | device hd => exact h.deviceOp hd

theorem taken (h : NumbersBelow Config.maxRecords s) (ht : Taken s t) : NumbersBelow Config.maxRecords t := by
  obtain ⟨u, ho, ha⟩ := ht
  exact (h.opening ho).acts ha

end NumbersBelow

/-! ### Every event answers a next state -/

/-- A completion stops the part at a record beyond the record memory alone. -/
theorem completing_next {n : Nat} {s u : State} (hn : n < Config.maxRecords) : ∃ t, completing n s u = .next t := by
  unfold completing
  rw [if_pos hn]
  split <;> exact ⟨_, rfl⟩

/-- The record of a transaction in flight exists. -/
theorem NumbersIn.completing_flight {b : Nat} {s u : State} {x : Txn} {rest : List Txn} {n : Nat}
    (h : NumbersIn b s) (hb : b = Config.maxRecords) (hf : s.inFlight = x :: rest) (hn : n ∈ flightNumbers x) :
    ∃ t, completing n s u = .next t :=
  completing_next (hb ▸ h.inFlight x (by rw [hf]; simp) n hn)

theorem execWriteBackComplete_next {s : State} (h : NumbersIn Config.maxRecords s) :
    ∃ t, execWriteBackComplete s = .next t := by
  unfold execWriteBackComplete
  split
  · split
    · rename_i hl
      exact completing_next (h.lines _ _ (by rw [hl]; simp [lineNumbers]))
    · rename_i hl _
      exact completing_next (h.lines _ _ (by rw [hl]; simp [lineNumbers]))
    · exact ⟨_, rfl⟩
  · exact ⟨_, rfl⟩

theorem execFillReadComplete_next {s : State} (h : NumbersIn Config.maxRecords s) (damage : Damage) :
    ∃ t, execFillReadComplete damage s = .next t := by
  unfold execFillReadComplete
  split
  · split
    · exact h.completing_flight rfl (by assumption) List.mem_cons_self
    · exact ⟨_, rfl⟩
  · exact ⟨_, rfl⟩

theorem execSweepReadComplete_next {s : State} (h : NumbersIn Config.maxRecords s) (damage : Damage)
    (during : VisitEvents) : ∃ t, execSweepReadComplete damage s during = .next t := by
  unfold execSweepReadComplete
  split
  · exact h.completing_flight rfl (by assumption) List.mem_cons_self
  · exact ⟨_, rfl⟩

theorem execSweepWriteComplete_next {s : State} (h : NumbersIn Config.maxRecords s) (during : VisitEvents) :
    ∃ t, execSweepWriteComplete s during = .next t := by
  unfold execSweepWriteComplete
  split
  · exact h.completing_flight rfl (by assumption) List.mem_cons_self
  · exact ⟨_, rfl⟩

theorem execFormatWriteComplete_next {s : State} (h : NumbersIn Config.maxRecords s) :
    ∃ t, execFormatWriteComplete s = .next t := by
  unfold execFormatWriteComplete
  split
  · exact h.completing_flight rfl (by assumption) List.mem_cons_self
  · exact ⟨_, rfl⟩

theorem execResumeReadComplete_next {s : State} (h : NumbersIn Config.maxRecords s) (damage : Damage) :
    ∃ t, execResumeReadComplete damage s = .next t := by
  unfold execResumeReadComplete
  split
  · exact h.completing_flight rfl (by assumption) List.mem_cons_self
  · exact ⟨_, rfl⟩

theorem execResumeWriteComplete_next {s : State} (h : NumbersIn Config.maxRecords s) :
    ∃ t, execResumeWriteComplete s = .next t := by
  unfold execResumeWriteComplete
  split
  · exact h.completing_flight rfl (by assumption) List.mem_cons_self
  · exact ⟨_, rfl⟩

/-- Every event answers a next state; the completions alone need the record's words to exist. -/
theorem exec_next {s : State} (h : NumbersIn Config.maxRecords s) (c : Instr) : ∃ t, exec c s = .next t := by
  cases c with
  | writeBackComplete => exact execWriteBackComplete_next h
  | fillReadComplete damage => exact execFillReadComplete_next h damage
  | sweepReadComplete damage during => exact execSweepReadComplete_next h damage during
  | sweepWriteComplete during => exact execSweepWriteComplete_next h during
  | formatWriteComplete => exact execFormatWriteComplete_next h
  | resumeReadComplete damage => exact execResumeReadComplete_next h damage
  | resumeWriteComplete => exact execResumeWriteComplete_next h
  | _ => exact ⟨_, rfl⟩

theorem step_next {s : State} (h : NumbersIn Config.maxRecords s) : ∃ t, step s = .next t := by
  unfold step
  split
  · exact ⟨_, rfl⟩
  · rename_i rest _
    exact exec_next (s := { s with pending := rest }) { h with } _

/-- Settles O59: every event answers a next state where the record numbers exist, and each operation that a step consists of
names only records that were named before, lie within a rule or within the capacity. -/
theorem stepsNeverStop : Obligations.StepsNeverStop := by
  unfold Obligations.StepsNeverStop
  refine ⟨fun s h => ?_, fun s label n => mapLabel_lt⟩
  have hb := (numbersExist_iff s).1 h
  obtain ⟨t, hstep⟩ := step_next hb.held
  obtain ⟨l, ht⟩ := step_taken hstep
  have hl : NumbersBelow Config.maxRecords { s with pending := l } := ⟨hb.capacity, hb.rules, { hb.held with }⟩
  exact ⟨t, hstep, (numbersExist_iff t).2 (hl.taken ht)⟩

end Sys2Proof.Proofs

/-! SUPPORT. The current copies of the records (R2), and what one operation of the Record Store or of the memory path can do
to the copy, the image and the Occupancy Map entry of a record. -/

namespace Sys2Proof.Proofs

open Sys2Proof Sys2Proof.Machine Sys2Proof.Safety Sys2Proof.Laws

/-! ### The copies that the part holds (R2) -/

/-- The record of which a line holds the current copy, the copy, and whether the line is clean. -/
def heldCopy : Line → Option (Nat × Record × Bool)
  | .valid n r d _ _ => some (n, r, !d)
  | .evicting old r _ => some (old, r, false)
  | _ => none

@[simp] theorem heldCopy_valid (n : Nat) (r : Record) (d f p : Bool) : heldCopy (.valid n r d f p) = some (n, r, !d) := rfl
@[simp] theorem heldCopy_evicting (m : Nat) (r : Record) (n : Nat) : heldCopy (.evicting m r n) = some (m, r, false) := rfl
@[simp] theorem heldCopy_filling (n : Nat) : heldCopy (.filling n) = none := rfl
@[simp] theorem heldCopy_empty : heldCopy .empty = none := rfl

theorem heldCopy_referenced {l m : Line} (h : SameButReferenced l m) : heldCopy m = heldCopy l := by
  rcases h with rfl | rfl
  · rfl
  · cases l <;> rfl

/-- `r` is the current copy of record `n`: in a line, or as the Sweep Unit's working copy. -/
def IsCopy (s : State) (n : Nat) (r : Record) : Prop :=
  (∃ i c, heldCopy (lineAt s.lines i) = some (n, r, c)) ∨ s.hold = .writing n r

/-- A clean line holds `r` as record `n`. -/
def CleanCopy (s : State) (n : Nat) (r : Record) : Prop := ∃ i, heldCopy (lineAt s.lines i) = some (n, r, true)

theorem CleanCopy.isCopy {s : State} {n : Nat} {r : Record} (h : CleanCopy s n r) : IsCopy s n r := by
  obtain ⟨i, hi⟩ := h
  exact .inl ⟨i, true, hi⟩

theorem cleanCopy_iff (s : State) (n : Nat) (r : Record) :
    CleanCopy s n r ↔ ∃ i f p, lineAt s.lines i = .valid n r false f p := by
  refine exists_congr fun i => ?_
  cases lineAt s.lines i <;> simp

theorem copyNumber_of_heldCopy {l : Line} {n : Nat} {r : Record} {c : Bool} (h : heldCopy l = some (n, r, c)) :
    copyNumber l = some n ∧ (lineCopies l).head? = some r := by
  cases l <;> simp_all [copyNumber, lineCopies]

theorem heldCopy_of_copyNumber {l : Line} {n : Nat} (h : copyNumber l = some n) : ∃ r c, heldCopy l = some (n, r, c) := by
  cases l <;> simp_all [copyNumber]

theorem find_copyNumber {s : State} {n : Nat} {l : Line}
    (h : (s.lines.toList.find? fun l => copyNumber l == some n) = some l) :
    ∃ i, lineAt s.lines i = l ∧ copyNumber l = some n := by
  obtain ⟨k, hk, rfl⟩ := List.getElem_of_mem (List.mem_of_find?_eq_some h)
  exact ⟨⟨k, by simpa using hk⟩, by simp [lineAt], by simpa using List.find?_some h⟩

theorem currentCopy_of_absent {s : State} {n : Nat} (h : ∀ r, ¬IsCopy s n r) : currentCopy s n = none := by
  unfold currentCopy
  split
  · rename_i hfind
    obtain ⟨i, rfl, hn⟩ := find_copyNumber hfind
    obtain ⟨r, c, hr⟩ := heldCopy_of_copyNumber hn
    exact absurd (.inl ⟨i, c, hr⟩) (h r)
  · split
    · rename_i m r hhold
      refine if_neg fun hmn => h r (.inr ?_)
      rw [hhold, hmn]
    · rfl

namespace StoreSound

variable {s : State}

theorem currentCopy_of_isCopy (h : StoreSound s) {n : Nat} {r : Record} (hc : IsCopy s n r) :
    currentCopy s n = some r := by
  rcases hc with ⟨i, c, hi⟩ | hhold
  · obtain ⟨hnumber, hhead⟩ := copyNumber_of_heldCopy hi
    cases hfind : s.lines.toList.find? fun l => copyNumber l == some n with
    | none =>
      have hmem : lineAt s.lines i ∈ s.lines.toList := by simp [lineAt]
      exact absurd (by simpa using hnumber) (List.find?_eq_none.1 hfind _ hmem)
    | some l =>
      obtain ⟨j, rfl, hj⟩ := find_copyNumber hfind
      rw [h.oneCopy i j n hnumber hj] at hhead
      unfold currentCopy
      rw [hfind]
      exact hhead
  · unfold currentCopy
    split
    · rename_i hfind
      obtain ⟨i, rfl, hn⟩ := find_copyNumber hfind
      exact absurd hn (h.holdApart i n (by rw [hhold]; rfl))
    · rw [hhold]
      exact if_pos rfl

theorem currentCopy_iff (h : StoreSound s) {n : Nat} {r : Record} : currentCopy s n = some r ↔ IsCopy s n r := by
  refine ⟨fun hr => ?_, h.currentCopy_of_isCopy⟩
  by_contra hno
  by_cases hany : ∃ q, IsCopy s n q
  · obtain ⟨q, hq⟩ := hany
    rw [h.currentCopy_of_isCopy hq] at hr
    cases hr
    exact hno hq
  · rw [currentCopy_of_absent fun q hq => hany ⟨q, hq⟩] at hr
    cases hr

/-- A record with a current copy in the part is not being read by the Sweep Unit. -/
theorem not_reading (h : StoreSound s) {n : Nat} {r : Record} (hc : IsCopy s n r) : s.hold ≠ .reading n := fun hn => by
  rcases hc with ⟨i, c, hi⟩ | hhold
  · exact h.holdApart i n (by rw [hn]; rfl) (copyNumber_of_heldCopy hi).1
  · rw [hn] at hhold
    cases hhold

/-- A line holds the only copy of its record. -/
theorem only_line (h : StoreSound s) {i j : Fin 64} {n : Nat} {r q : Record} {c d : Bool}
    (hi : heldCopy (lineAt s.lines i) = some (n, r, c)) (hj : heldCopy (lineAt s.lines j) = some (n, q, d)) : j = i :=
  h.oneCopy j i n (copyNumber_of_heldCopy hj).1 (copyNumber_of_heldCopy hi).1

theorem no_working (h : StoreSound s) {i : Fin 64} {n : Nat} {r q : Record} {c : Bool}
    (hi : heldCopy (lineAt s.lines i) = some (n, r, c)) : s.hold ≠ .writing n q := fun hn =>
  h.holdApart i n (by rw [hn]; rfl) (copyNumber_of_heldCopy hi).1

end StoreSound

/-! ### What one operation can do to the records -/

/-- The sixteen words of record `m`'s image are, as written, what they were. -/
def SameImage (s t : State) (m : Nat) : Prop :=
  ∀ k, k < 16 → t.memory.readWord (16 * m + k) = s.memory.readWord (16 * m + k)

/-- Record `m` has the copy, the image and the map entry that it had. -/
structure Untouched (s t : State) (m : Nat) : Prop where
  lines : ∀ j r c, heldCopy (lineAt t.lines j) = some (m, r, c) ↔ heldCopy (lineAt s.lines j) = some (m, r, c)
  working : ∀ r, t.hold = .writing m r ↔ s.hold = .writing m r
  image : SameImage s t m
  occupancy : m ∈ t.occupancy ↔ m ∈ s.occupancy

namespace Untouched

variable {s t : State} {m : Nat}

theorem isCopy (h : Untouched s t m) (r : Record) : IsCopy t m r ↔ IsCopy s m r := by
  unfold IsCopy
  simp only [h.lines, h.working]

theorem cleanCopy (h : Untouched s t m) (r : Record) : CleanCopy t m r ↔ CleanCopy s m r := by
  unfold CleanCopy
  simp only [h.lines]

theorem currentCopy (h : Untouched s t m) (hs : StoreSound s) (ht : StoreSound t) :
    currentCopy t m = currentCopy s m :=
  Option.ext fun r => ht.currentCopy_iff.trans ((h.isCopy r).trans hs.currentCopy_iff.symm)

end Untouched

/-- What one operation does to the copy, the image and the map entry of the record it is about, the owed-record count
following: nothing; a change of the copy held; the copy handed over to an image that says the same; or a copy formed from
the image. -/
inductive Turn (s t : State) (n : Nat) : Prop
  | kept (same : Untouched s t n) (count : t.owedCount = s.owedCount)
  | changed {r q : Record} (before : IsCopy s n r) (after : IsCopy t n q) (image : SameImage s t n)
      (clean : ∀ p, CleanCopy t n p → p = r ∧ CleanCopy s n r) (change : CopyChange n s r t q)
  | handed {r : Record} (before : IsCopy s n r) (after : ∀ q, ¬IsCopy t n q)
      (image : CleanCopy s n r ∧ SameImage s t n ∨
        ∀ k, k < 16 → t.memory.readWord (16 * n + k) = (encodeImage r).getD k 0)
      (occupancy : n ∈ t.occupancy ↔ n ∈ s.occupancy) (count : t.owedCount = s.owedCount)
  | formed {q : Record} {f : Formed} {source : FaultSource} {use : Nat} (before : ∀ r, ¬IsCopy s n r)
      (after : IsCopy t n q) (image : SameImage s t n) (clean : ∀ p, CleanCopy t n p → p = f.copy ∧ f.dirty = false)
      (read : f = formCopy source (!occupied s n) use (t.memory.checkImage n)) (store : source ≠ .resume)
      (change : CopyChange n s f.copy t q)

/-- One operation is about record `n` alone; a sweep read begins of a record whose map entry is set. -/
structure Turns (s t : State) (n : Nat) : Prop where
  others : ∀ m, m ≠ n → Untouched s t m
  turn : Turn s t n
  setup : t.setup = s.setup
  reading : ∀ m, t.hold = .reading m → s.hold = .reading m ∨ m ∈ s.occupancy

/-- Nothing about any record changes. -/
theorem turns_of_untouched {s t : State} (h : ∀ m, Untouched s t m) (hc : t.owedCount = s.owedCount)
    (hs : t.setup = s.setup) (hr : ∀ m, t.hold = .reading m → s.hold = .reading m ∨ m ∈ s.occupancy) (n : Nat) :
    Turns s t n := ⟨fun m _ => h m, .kept (h n) hc, hs, hr⟩

/-- Nothing that the laws speak of changes. -/
theorem turns_of_same {s t : State} (hl : t.lines = s.lines) (hh : t.hold = s.hold) (hm : t.memory = s.memory)
    (ho : t.occupancy = s.occupancy) (hc : t.owedCount = s.owedCount) (hs : t.setup = s.setup) : Turns s t 0 :=
  turns_of_untouched (fun m => ⟨by simp [hl], by simp [hh], by simp [SameImage, hm], by simp [ho]⟩) hc hs
    (by simp_all) 0

theorem heldCopy_set {ls : Vector Line 64} {i : Fin 64} {l : Line} {m : Nat}
    (hbefore : ∀ r c, heldCopy (lineAt ls i) ≠ some (m, r, c)) (hafter : ∀ r c, heldCopy l ≠ some (m, r, c))
    (j : Fin 64) (r : Record) (c : Bool) :
    heldCopy (lineAt (ls.set i.val l i.isLt) j) = some (m, r, c) ↔ heldCopy (lineAt ls j) = some (m, r, c) := by
  rw [lineAt_set]
  split
  · rename_i hj
    rw [hj]
    exact ⟨fun h => absurd h (hafter r c), fun h => absurd h (hbefore r c)⟩
  · exact Iff.rfl

theorem StoreSound.turns_claimed {s t : State} (h : StoreSound s) {i : Fin 64} {n : Nat} {r q : Record}
    {d f p d' f' p' : Bool} (line : lineAt s.lines i = .valid n r d f p) (clean : d' = false → d = false ∧ q = r)
    (change : CopyChange n s r t q) :
    Turns s
      { s with
        lines := s.lines.set i.val (.valid n q d' f' p') i.isLt, occupancy := t.occupancy, owedCount := t.owedCount }
      n := by
  have hline : heldCopy (lineAt s.lines i) = some (n, r, !d) := by rw [line]; rfl
  have hnew : heldCopy (lineAt (s.lines.set i.val (.valid n q d' f' p') i.isLt) i) = some (n, q, !d') := by
    rw [lineAt_set, if_pos rfl]
    rfl
  refine ⟨fun m hm => ⟨heldCopy_set ?_ ?_, fun _ => Iff.rfl, fun _ _ => rfl, change.others m hm⟩, ?_, rfl,
    fun m hm => .inl hm⟩
  · intro x c hx
    rw [hline] at hx
    cases hx
    exact hm rfl
  · intro x c hx
    cases hx
    exact hm rfl
  · refine .changed (.inl ⟨i, _, hline⟩) (.inl ⟨i, _, hnew⟩) (fun _ _ => rfl) (fun x ⟨j, hx⟩ => ?_)
      ⟨change.others, change.vacant, change.clear, change.count⟩
    simp only [lineAt_set] at hx
    split at hx
    · simp only [heldCopy_valid, Option.some.injEq, Prod.mk.injEq, Bool.not_eq_true'] at hx
      obtain ⟨-, rfl, hd⟩ := hx
      obtain ⟨rfl, rfl⟩ := clean hd
      exact ⟨rfl, i, hline⟩
    · rename_i hj
      exact absurd (h.only_line hline hx) hj

/-- Opening an entry hands a clean victim's copy over to its image, and leaves every other copy as it was (R67). -/
theorem StoreSound.turns_opened {s t : State} (h : StoreSound s) {n : Nat} {ph : Phase} {w : Waiter}
    (ho : openEntry s n ph w = some t) : ∃ m, Turns s t m := by
  obtain ⟨v, ho⟩ := openedFrom_of_openEntry ho
  obtain ⟨-, -, hothers⟩ := selectVictim_some ho.victim
  have hsame (j : Fin 64) (hj : j ≠ v.target) : heldCopy (lineAt t.lines j) = heldCopy (lineAt s.lines j) := by
    rw [ho.lines]
    exact heldCopy_referenced (hothers j hj)
  have untouched (m : Nat)
      (hm : ∀ r c, heldCopy (lineAt t.lines v.target) = some (m, r, c) ↔
        heldCopy (lineAt s.lines v.target) = some (m, r, c)) : Untouched s t m := by
    refine ⟨fun j r c => ?_, by simp [ho.hold], by simp [SameImage, ho.memory], by simp [ho.occupancy]⟩
    by_cases hj : j = v.target
    · rw [hj, hm]
    · rw [hsame j hj]
  have hreading (m : Nat) (hm : t.hold = .reading m) : s.hold = .reading m ∨ m ∈ s.occupancy := .inl (ho.hold ▸ hm)
  rw [ho.lines] at untouched
  obtain ⟨h1, h2⟩ | ⟨old, r, d, f, h1, -, ⟨rfl, h2⟩ | ⟨rfl, h2⟩⟩ := selectVictim_line ho.victim
  · exact ⟨0, turns_of_untouched (fun m => untouched m (by simp [h1, h2])) ho.owedCount ho.setup hreading 0⟩
  · exact ⟨0, turns_of_untouched (fun m => untouched m (by simp [h1, h2])) ho.owedCount ho.setup hreading 0⟩
  · have hline : heldCopy (lineAt s.lines v.target) = some (old, r, true) := by rw [h1]; rfl
    refine ⟨old, fun m hm => untouched m fun q c => ?_, ?_, ho.setup, hreading⟩
    · have hne : old ≠ m := fun e => hm e.symm
      simp [h1, h2, hne]
    · refine .handed (.inl ⟨v.target, _, hline⟩) ?_ (.inl ⟨⟨v.target, hline⟩, by simp [SameImage, ho.memory]⟩)
        (by simp [ho.occupancy]) ho.owedCount
      rintro q (⟨j, c, hj⟩ | hhold)
      · by_cases hjv : j = v.target
        · rw [hjv, ho.lines, h2] at hj
          cases hj
        · rw [hsame j hjv] at hj
          exact hjv (h.only_line hline hj)
      · exact h.no_working hline (ho.hold ▸ hhold)

theorem turns_sweepBegun {s : State} {n : Nat} (hocc : n ∈ s.occupancy) (hidle : s.hold = .none) :
    Turns s { s with hold := .reading n, sweepReq := some (.read n) } 0 := by
  have untouched (m : Nat) : Untouched s { s with hold := .reading n, sweepReq := some (.read n) } m := by
    refine ⟨fun _ _ _ => Iff.rfl, fun r => ?_, fun _ _ => rfl, Iff.rfl⟩
    rw [hidle]
    exact ⟨fun hr => (by cases hr), fun hr => (by cases hr)⟩
  refine turns_of_untouched untouched rfl rfl (fun m hm => ?_) 0
  cases hm
  exact .inr hocc

/-- Every operation of the Record Store is about one record. -/
theorem StoreSound.turns_storeOp {s t : State} (h : StoreSound s) (ho : StoreOp s t) : ∃ n, Turns s t n := by
  cases ho with
  | quiet hq => exact ⟨0, turns_of_same hq.lines hq.hold hq.memory hq.occupancy hq.owedCount hq.setup⟩
  | claimed line clean change => exact ⟨_, h.turns_claimed line clean change⟩
  | opened _ _ _ hopen => exact h.turns_opened hopen
  | sweepBegun _ hocc hidle => exact ⟨0, turns_sweepBegun hocc hidle⟩

/-! ### The memory path -/

theorem length_encodeImage (r : Record) : (encodeImage r).length = 16 := by simp [encodeImage, recordBodies]

/-- Writing record `n`'s image writes its sixteen words and no other record's. -/
theorem readWord_writeImage (m : Memory) {n : Nat} (hn : n < Config.maxRecords) (r : Record) :
    (∀ k, k < 16 → (m.writeWords (16 * n) (encodeImage r)).readWord (16 * n + k) = (encodeImage r).getD k 0) ∧
      ∀ j k, j ≠ n → k < 16 → (m.writeWords (16 * n) (encodeImage r)).readWord (16 * j + k) = m.readWord (16 * j + k) := by
  have hfit : 16 * n + (encodeImage r).length ≤ Config.memoryWords := by
    rw [length_encodeImage]
    simp only [Config.maxRecords] at hn
    simp only [Config.memoryWords]
    omega
  have hread := (Memory.writeWords_spec m (16 * n) (encodeImage r) hfit).1
  rw [length_encodeImage] at hread
  refine ⟨fun k hk => ?_, fun j k hj hk => ?_⟩
  · rw [hread, if_pos (by omega), Nat.add_sub_cancel_left]
  · rw [hread, if_neg (by omega)]

/-- A completed write hands the copy written over to the image (R84, R109). -/
theorem ImageWritten.turns {s t : State} {n : Nat} {ph : Phase} {copy : Record} (hw : ImageWritten s t n ph copy)
    (hn : n < Config.maxRecords) (before : IsCopy s n copy) (after : ∀ q, ¬IsCopy t n q)
    (lines : ∀ m, m ≠ n → ∀ j r c, heldCopy (lineAt t.lines j) = some (m, r, c) ↔
      heldCopy (lineAt s.lines j) = some (m, r, c))
    (working : ∀ m, m ≠ n → ∀ r, t.hold = .writing m r ↔ s.hold = .writing m r)
    (reading : ∀ m, t.hold = .reading m → s.hold = .reading m) : Turns s t n := by
  obtain ⟨hthis, hother⟩ := readWord_writeImage s.memory hn copy
  rw [← hw.memory] at hthis hother
  exact ⟨fun m hm => ⟨lines m hm, working m hm, fun k hk => hother m k hm hk, by rw [hw.occupancy]⟩,
    .handed before after (.inr hthis) (by rw [hw.occupancy]) hw.owedCount, hw.setup, fun m hm => .inl (reading m hm)⟩

theorem readWord_addDamage (m : Memory) (n : Nat) (damage : Damage) (w : Nat) :
    (m.addDamage n damage).readWord w = m.readWord w := by
  simp only [Memory.readWord, Memory.readByte_addDamage]

/-- A completed read forms a copy of a record of which the part held none (R73, R108). -/
theorem ReadFrom.turns {s t : State} {n : Nat} {damage : Damage} {f : Formed} {q : Record}
    (hr : ReadFrom s t n damage f q) {source : FaultSource} (hstore : source ≠ .resume)
    (hf : f = formedBy s n source (!occupied s n) damage) (before : ∀ r, ¬IsCopy s n r) (after : IsCopy t n q)
    (clean : ∀ p, CleanCopy t n p → p = f.copy ∧ f.dirty = false)
    (lines : ∀ m, m ≠ n → ∀ j r c, heldCopy (lineAt t.lines j) = some (m, r, c) ↔
      heldCopy (lineAt s.lines j) = some (m, r, c))
    (working : ∀ m, m ≠ n → ∀ r, t.hold = .writing m r ↔ s.hold = .writing m r)
    (reading : ∀ m, t.hold = .reading m → s.hold = .reading m) : Turns s t n := by
  have himage (m : Nat) : SameImage s t m := fun k _ => by rw [hr.memory, readWord_addDamage]
  refine ⟨fun m hm => ⟨lines m hm, working m hm, himage m, hr.change.others m hm⟩,
    .formed (use := s.freeIndex) before after (himage n) clean ?_ hstore hr.change, hr.setup, fun m hm => .inl (reading m hm)⟩
  rw [hr.memory]
  exact hf

namespace StoreSound

variable {s t : State}

/-- The transactions in flight are nothing that the laws speak of. -/
theorem turns_of_rest {rest : List Txn} {n : Nat} (h : Turns { s with inFlight := rest } t n) : Turns s t n := by
  refine ⟨fun m hm => ?_, ?_, h.setup, h.reading⟩
  · obtain ⟨hl, hw, hi, ho⟩ := h.others m hm
    exact ⟨hl, hw, hi, ho⟩
  · obtain ⟨⟨hl, hw, hi, ho⟩, hc⟩ | ⟨hb, ha, hi, hc, ⟨h1, h2, h3, h4⟩⟩ | ⟨hb, ha, hi, ho, hc⟩ |
      ⟨hb, ha, hi, hc, hr, hs, ⟨h1, h2, h3, h4⟩⟩ := h.turn
    · exact .kept ⟨hl, hw, hi, ho⟩ hc
    · exact .changed hb ha hi hc ⟨h1, h2, h3, h4⟩
    · exact .handed hb ha hi ho hc
    · exact .formed hb ha hi hc hr hs ⟨h1, h2, h3, h4⟩

theorem turns_evicted (h : StoreSound s) {i : Fin 64} {old reserved : Nat} {copy : Record} (rest : List Txn)
    (hl : lineAt s.lines i = .evicting old copy reserved) (hn : old < Config.maxRecords) :
    Turns s (evictionWritten { s with inFlight := rest } i old copy reserved) old := by
  obtain ⟨himage, hlines, hhold, -⟩ := evictionWritten_image { s with inFlight := rest } i old copy reserved
  generalize evictionWritten { s with inFlight := rest } i old copy reserved = t at *
  have hline : heldCopy (lineAt s.lines i) = some (old, copy, false) := by rw [hl]; rfl
  refine turns_of_rest (himage.turns hn (.inl ⟨i, _, hline⟩) ?_ ?_ (fun m _ r => by rw [hhold])
    (fun m hm => by rw [← hhold]; exact hm))
  · rintro q (⟨j, c, hj⟩ | hw)
    · rw [hlines, lineAt_set] at hj
      split at hj
      · cases hj
      · rename_i hne
        exact hne (h.only_line hline hj)
    · exact h.no_working hline (hhold ▸ hw)
  · intro m hm
    rw [hlines]
    refine heldCopy_set (fun r c hr => ?_) (fun r c hr => by cases hr)
    rw [show heldCopy (lineAt s.lines i) = some (m, r, c) from hr] at hline
    cases hline
    exact hm rfl

theorem turns_released (h : StoreSound s) {n : Nat} {copy : Record} (rest : List Txn) (hh : s.hold = .writing n copy)
    (hn : n < Config.maxRecords) : Turns s (Proofs.released { s with inFlight := rest } n copy) n := by
  obtain ⟨himage, hlines, hhold, -⟩ := released_image { s with inFlight := rest } n copy
  generalize Proofs.released { s with inFlight := rest } n copy = t at *
  refine turns_of_rest (himage.turns hn (.inr hh) ?_ (fun m _ j r c => by rw [hlines]) ?_ ?_)
  · rintro q (⟨j, c, hj⟩ | hw)
    · rw [hlines] at hj
      exact h.no_working hj hh
    · rw [hhold] at hw
      cases hw
  · intro m hm r
    rw [hhold, show ({ s with inFlight := rest } : State).hold = s.hold from rfl, hh]
    exact ⟨fun e => (by cases e), fun e => (by cases e; exact absurd rfl hm)⟩
  · intro m hm
    rw [hhold] at hm
    cases hm

theorem turns_landed (h : StoreSound s) {n : Nat} {e : Entry} {rest : List Txn} (damage : Damage)
    (hf : s.inFlight = .fill n :: rest) (he : findEntry s.missTable n = some e) :
    Turns s (Proofs.landed { s with inFlight := rest } n e.target damage) n := by
  obtain ⟨q, hread, hclean, hlines, -, hhold, -⟩ := landed_read { s with inFlight := rest } n e.target damage
  generalize Proofs.landed { s with inFlight := rest } n e.target damage = t at *
  obtain ⟨hnumber, habsent⟩ := h.fill_no_copy hf he
  obtain ⟨-, -, -, -, -, hfilling⟩ := h.fill_entry hf he
  have hno (i : Fin 64) (r : Record) (c : Bool) : heldCopy (lineAt s.lines i) ≠ some (n, r, c) := fun hi =>
    habsent i (copyNumber_of_heldCopy hi).1
  have hnone : ∀ r c m, heldCopy (lineAt s.lines e.target) ≠ some (m, r, c) := fun r c m hm => by
    have hcopy : (role s e.target).1 = some m := (copyNumber_of_heldCopy hm).1
    rw [hfilling] at hcopy
    cases hcopy
  have hafter : ∃ c, heldCopy (lineAt t.lines e.target) = some (n, q, c) := by
    rw [hlines, lineAt_set, if_pos rfl]
    exact ⟨_, rfl⟩
  refine turns_of_rest (hread.turns (by simp) rfl ?_ (.inl ⟨_, hafter⟩) ?_ ?_ (fun m _ r => by rw [hhold])
    (fun m hm => by rw [← hhold]; exact hm))
  · rintro r (⟨j, c, hj⟩ | hw)
    · exact hno j r c hj
    · exact hnumber (by rw [show s.hold = .writing n r from hw]; rfl)
  · rintro p ⟨j, hj⟩
    rw [hlines, lineAt_set] at hj
    split at hj
    · simp only [heldCopy_valid, Option.some.injEq, Prod.mk.injEq, Bool.not_eq_true'] at hj
      obtain ⟨-, rfl, hd⟩ := hj
      exact ⟨hclean hd, hd⟩
    · exact absurd hj (hno j p true)
  · intro m hm
    rw [hlines]
    refine heldCopy_set (fun r c => hnone r c m) fun r c hr => ?_
    cases hr
    exact hm rfl

theorem turns_swept (h : StoreSound s) {n : Nat} {rest : List Txn} (damage : Damage) (during : VisitEvents)
    (hf : s.inFlight = .sweepRead n :: rest) (hocc : n ∈ s.occupancy) :
    Turns s (sweepVisited { s with inFlight := rest } n damage during) n := by
  obtain ⟨q, hread, hlines, -, hhold, -⟩ := swept_read { s with inFlight := rest } n damage during
  generalize sweepVisited { s with inFlight := rest } n damage during = t at *
  have hreading := h.sweepRead_hold hf
  have hno (i : Fin 64) (r : Record) (c : Bool) : heldCopy (lineAt s.lines i) ≠ some (n, r, c) := fun hi =>
    h.holdApart i n (by rw [hreading]; rfl) (copyNumber_of_heldCopy hi).1
  refine turns_of_rest (hread.turns (source := .sweep) (by simp) ?_ ?_ (.inr hhold) ?_ (fun m _ j r c => by rw [hlines])
    ?_ ?_)
  · rw [show (!occupied { s with inFlight := rest } n) = false by simp [occupied, hocc]]
  · rintro r (⟨j, c, hj⟩ | hw)
    · exact hno j r c hj
    · rw [show s.hold = .writing n r from hw] at hreading
      cases hreading
  · rintro p ⟨j, hj⟩
    rw [hlines] at hj
    exact absurd hj (hno j p true)
  · intro m hm r
    rw [hhold, show ({ s with inFlight := rest } : State).hold = s.hold from rfl, hreading]
    exact ⟨fun e => (by cases e; exact absurd rfl hm), fun e => (by cases e)⟩
  · intro m hm
    rw [hhold] at hm
    cases hm

theorem turns_issued (hp : s.pass = .none) : Turns s (issueNext s) 0 := by
  obtain ⟨q, rest, -, e⟩ | ⟨q, -, e⟩ | e := issueNext_of_none hp <;> rw [e]
  · exact turns_of_same rfl rfl rfl rfl rfl rfl
  · exact turns_of_same rfl rfl rfl rfl rfl rfl
  · exact turns_of_same rfl rfl rfl rfl rfl rfl

/-- Every operation of the memory path is about one record. -/
theorem turns_memoryOp (h : StoreSound s) (hr : ∀ n, s.hold = .reading n → n ∈ s.occupancy) (ho : MemoryOp s t) :
    ∃ n, Turns s t n := by
  cases ho with
  | issued hp => exact ⟨0, turns_issued hp⟩
  | evicted _ hl hn => exact ⟨_, h.turns_evicted _ hl hn⟩
  | landed damage hf he _ => exact ⟨_, h.turns_landed damage hf he⟩
  | swept damage during hf _ => exact ⟨_, h.turns_swept damage during hf (hr _ (h.sweepRead_hold hf))⟩
  | released hf hh hn =>
    cases h.sweepWrite_hold hf hh
    exact ⟨_, h.turns_released _ hh hn⟩

end StoreSound

end Sys2Proof.Proofs

/-! SUPPORT. The law of the Occupancy Map (R18), record by record. -/

namespace Sys2Proof.Proofs

open Sys2Proof Sys2Proof.Machine Sys2Proof.Safety Sys2Proof.Laws

/-! ### Steps from RUNNING to RUNNING -/

theorem StoreOp.device {s t : State} (h : StoreOp s t) : t.device = s.device := by
  cases h with
  | quiet hq => exact hq.device
  | claimed _ _ _ => rfl
  | opened _ _ _ ho =>
    obtain ⟨v, ho⟩ := openedFrom_of_openEntry ho
    exact ho.device
  | sweepBegun _ _ _ => rfl

theorem Acts.device {s t : State} (h : Acts s t) : t.device = s.device := by
  induction h with
  | refl => rfl
  | tail _ ho ih => exact ho.device.trans ih

/-- In RUNNING a device-wide operation begins a RESTART or resets the part, and the device state is RUNNING no more. -/
theorem DeviceOp.leaves_running {s t : State} (hc : Coherent s) (hs : StoreSound s) (hd : s.device = .running)
    (h : DeviceOp s t) : t.device ≠ .running := by
  have hagrees := hc.1
  unfold OperationAgrees at hagrees
  rw [hd] at hagrees
  obtain ⟨hrestart, hpass, -⟩ := hagrees
  cases h with
  | reset _ _ _ => exact fun h => by cases h
  | configured hdev _ => simp [hd] at hdev
  | formatBegun hdev => simp [hd] at hdev
  | resumeBegun hdev => simp [hd] at hdev
  | restartBegun _ => exact fun h => by cases h
  | passIssued hp => exact absurd hpass hp
  | formatWritten _ hp => simp [hpass] at hp
  | resumeRead _ _ hp => simp [hpass] at hp
  | @resumeWritten n r rest hf =>
    have hrepair := hs.repairs n r (by rw [hf]; simp)
    rw [hpass] at hrepair
    cases hrepair
  | restartWritten _ _ hr => simp [hrestart] at hr
  | writeBacksRequested hdrained => simp [drained, hd] at hdrained
  | restartEnded hr => simp [hrestart] at hr

/-- A step from RUNNING to RUNNING is an operation of the memory path at most, then operations of the Record Store. -/
theorem taken_running {s t : State} (hc : Coherent s) (hs : StoreSound s) (hd : s.device = .running)
    (hd' : t.device = .running) (h : Taken s t) : ∃ u, (u = s ∨ MemoryOp s u) ∧ Acts u t := by
  obtain ⟨u, ho, ha⟩ := h
  refine ⟨u, ?_, ha⟩
  cases ho with
  | nothing => exact .inl rfl
  | memory hm => exact .inr hm
  | device hop => exact absurd (ha.device.symm.trans hd') (hop.leaves_running hc hs hd)

/-! ### VACANT copies and images -/

theorem code_eq_zero (st : RecState) : st.code = 0 ↔ st = .vacant := by cases st <;> decide

theorem identityWord_code (r : Record) : (identityWord r).extractLsb' 0 3 = r.state.code := by
  unfold identityWord
  ext i hi
  rw [BitVec.getElem_extractLsb', Nat.zero_add, BitVec.getLsbD_append, if_pos hi, BitVec.getLsbD_eq_getElem hi]

/-- A copy formed for the store is VACANT exactly when the map entry was clear (R91, R93, R95). -/
theorem formCopy_vacant_iff {source : FaultSource} (hs : source ≠ .resume) (vacant : Bool) (use : Nat)
    (checks : List WordCheck) : (formCopy source vacant use checks).copy.state = .vacant ↔ vacant = true := by
  unfold formCopy
  dsimp only
  split
  · rename_i h
    exact ⟨fun _ => h, fun _ => rfl⟩
  · rename_i h
    refine ⟨fun hv => ?_, fun hv => absurd hv h⟩
    split at hv
    · cases hv
    · split at hv
      · rename_i hresume
        simp [hs] at hresume
      · split at hv
        · cases hv
        · rename_i hread
          simp only [Bool.or_eq_true, not_or, beq_iff_eq] at hread
          obtain ⟨⟨⟨-, hnone⟩, hvacant⟩, -⟩ := hread
          refine absurd ?_ hvacant
          cases hstate : RecState.ofCode (((checks.headD .uncorrectable).dataOr 0).extractLsb' 0 3) with
          | none => exact absurd hstate hnone
          | some st =>
            rw [hstate] at hv
            exact congrArg some hv

theorem SameImage.imageVacant {s t : State} {m : Nat} (h : SameImage s t m) : imageVacant t m ↔ imageVacant s m := by
  have h0 := h 0 (by decide)
  unfold Safety.imageVacant
  rw [show 16 * m = 16 * m + 0 from rfl, h0]

theorem vacantNow_of_absent {s : State} {n : Nat} (h : ∀ r, ¬IsCopy s n r) : VacantNow s n ↔ imageVacant s n := by
  unfold VacantNow
  rw [currentCopy_of_absent h]

theorem StoreSound.vacantNow_of_isCopy {s : State} (h : StoreSound s) {n : Nat} {r : Record} (hc : IsCopy s n r) :
    VacantNow s n ↔ r.state = .vacant := by
  unfold VacantNow
  rw [h.currentCopy_of_isCopy hc]

theorem Untouched.vacantNow {s t : State} {m : Nat} (h : Untouched s t m) (hs : StoreSound s) (ht : StoreSound t) :
    VacantNow t m ↔ VacantNow s m := by
  unfold VacantNow
  rw [h.currentCopy hs ht]
  split
  · exact Iff.rfl
  · exact h.image.imageVacant

/-! ### The law, record by record -/

/-- What the law of R18 says of record `n`. -/
structure OccupancyAt (s : State) (n : Nat) : Prop where
  entry : n < s.setup.capacity → (n ∈ s.occupancy ↔ ¬VacantNow s n)
  reading : s.hold = .reading n → n ∈ s.occupancy
  clean : n < s.setup.capacity → ∀ r, CleanCopy s n r → (r.state = .vacant ↔ imageVacant s n)

theorem occupancyAgrees_iff (s : State) : OccupancyAgrees s ↔ ∀ n, OccupancyAt s n := by
  constructor
  · rintro ⟨h1, h2, h3⟩ n
    refine ⟨h1 n, h2 n, fun hn r hr => ?_⟩
    obtain ⟨i, f, p, hl⟩ := (cleanCopy_iff s n r).1 hr
    exact h3 i n r f p hn hl
  · intro h
    exact ⟨fun n => (h n).entry, fun n => (h n).reading, fun i n r f p hn hl =>
      (h n).clean hn r ((cleanCopy_iff s n r).2 ⟨i, f, p, hl⟩)⟩

namespace OccupancyAt

variable {s t : State} {n m : Nat}

theorem untouched (h : OccupancyAt s m) (hs : StoreSound s) (ht : StoreSound t) (hu : Untouched s t m)
    (hsetup : t.setup = s.setup) (hr : t.hold = .reading m → s.hold = .reading m ∨ m ∈ s.occupancy) :
    OccupancyAt t m := by
  refine ⟨fun hm => ?_, fun hm => ?_, fun hm r hc => ?_⟩
  · rw [hu.occupancy, hu.vacantNow hs ht, h.entry (hsetup ▸ hm)]
  · exact hu.occupancy.2 ((hr hm).elim h.reading id)
  · rw [hu.image.imageVacant]
    exact h.clean (hsetup ▸ hm) r ((hu.cleanCopy r).1 hc)

/-- A copy that changes with its map entry keeps the law. -/
theorem changed (h : OccupancyAt s n) (hs : StoreSound s) (ht : StoreSound t) {r q : Record} (before : IsCopy s n r)
    (after : IsCopy t n q) (image : SameImage s t n) (clean : ∀ p, CleanCopy t n p → p = r ∧ CleanCopy s n r)
    (change : CopyChange n s r t q) (hsetup : t.setup = s.setup) : OccupancyAt t n := by
  refine ⟨fun hn => ?_, fun hn => absurd hn (ht.not_reading after), fun hn p hp => ?_⟩
  · have hwas := h.entry (hsetup ▸ hn)
    rw [hs.vacantNow_of_isCopy before] at hwas
    rw [ht.vacantNow_of_isCopy after, change.vacant (by rw [hwas, not_not]), not_not]
  · obtain ⟨rfl, hc⟩ := clean p hp
    rw [image.imageVacant]
    exact h.clean (hsetup ▸ hn) p hc

/-- A copy handed over to an image that says the same keeps the law. -/
theorem handed (h : OccupancyAt s n) (hs : StoreSound s) {r : Record} (before : IsCopy s n r)
    (after : ∀ q, ¬IsCopy t n q)
    (image : CleanCopy s n r ∧ SameImage s t n ∨
      ∀ k, k < 16 → t.memory.readWord (16 * n + k) = (encodeImage r).getD k 0)
    (occupancy : n ∈ t.occupancy ↔ n ∈ s.occupancy) (hsetup : t.setup = s.setup)
    (hr : t.hold = .reading n → s.hold = .reading n ∨ n ∈ s.occupancy) : OccupancyAt t n := by
  refine ⟨fun hn => ?_, fun hn => occupancy.2 ((hr hn).elim h.reading id),
    fun _ p hp => absurd hp.isCopy (after p)⟩
  rw [hsetup] at hn
  rw [occupancy, h.entry hn, hs.vacantNow_of_isCopy before, vacantNow_of_absent after]
  rcases image with ⟨hclean, hsame⟩ | hwritten
  · rw [h.clean hn r hclean, hsame.imageVacant]
  · have hword : t.memory.readWord (16 * n) = identityWord r := hwritten 0 (by decide)
    unfold imageVacant
    rw [hword, identityWord_code, code_eq_zero]

/-- A copy formed from the image keeps the law: the image is VACANT exactly when the map entry is clear. -/
theorem formed (h : OccupancyAt s n) (ht : StoreSound t) {q : Record} {f : Formed} {source : FaultSource} {use : Nat}
    {checks : List WordCheck} (before : ∀ r, ¬IsCopy s n r) (after : IsCopy t n q) (image : SameImage s t n)
    (clean : ∀ p, CleanCopy t n p → p = f.copy ∧ f.dirty = false) (read : f = formCopy source (!occupied s n) use checks)
    (store : source ≠ .resume) (change : CopyChange n s f.copy t q) (hsetup : t.setup = s.setup) :
    OccupancyAt t n := by
  have hvacant : f.copy.state = .vacant ↔ n ∉ s.occupancy := by
    rw [read, formCopy_vacant_iff store]
    simp [occupied]
  refine ⟨fun hn => ?_, fun hn => absurd hn (ht.not_reading after), fun hn p hp => ?_⟩
  · rw [ht.vacantNow_of_isCopy after, change.vacant hvacant, not_not]
  · obtain ⟨rfl, -⟩ := clean p hp
    rw [hvacant, h.entry (hsetup ▸ hn), vacantNow_of_absent before, not_not, image.imageVacant]

end OccupancyAt

/-- One operation keeps the law of the Occupancy Map. -/
theorem Turns.occupancyAt {s t : State} {n : Nat} (h : Turns s t n) (hs : StoreSound s) (ht : StoreSound t)
    (ho : ∀ m, OccupancyAt s m) (m : Nat) : OccupancyAt t m := by
  have hm := ho m
  by_cases hmn : m = n
  · subst hmn
    cases h.turn with
    | kept same _ => exact hm.untouched hs ht same h.setup (h.reading m)
    | changed before after image clean change => exact hm.changed hs ht before after image clean change h.setup
    | handed before after image occupancy _ => exact hm.handed hs before after image occupancy h.setup (h.reading m)
    | formed before after image clean read store change =>
      exact hm.formed ht before after image clean read store change h.setup
  · exact hm.untouched hs ht (h.others m hmn) h.setup (h.reading m)

/-- The operations of the Record Store keep the law of the Occupancy Map. -/
theorem Acts.occupancyAt {s t : State} (h : Acts s t) (hs : StoreSound s) (ho : ∀ m, OccupancyAt s m) :
    ∀ m, OccupancyAt t m := by
  induction h with
  | refl => exact ho
  | tail ha hop ih =>
    have hmid := hs.acts ha
    obtain ⟨n, ht⟩ := hmid.turns_storeOp hop
    exact ht.occupancyAt hmid (hmid.storeOp hop) ih

/-- The memory path keeps the law of the Occupancy Map. -/
theorem MemoryOp.occupancyAt {s t : State} (h : MemoryOp s t) (hs : StoreSound s) (ho : ∀ m, OccupancyAt s m) :
    ∀ m, OccupancyAt t m := by
  obtain ⟨n, ht⟩ := hs.turns_memoryOp (fun n => (ho n).reading) h
  exact ht.occupancyAt hs (hs.memoryOp h) ho

/-- A step from RUNNING to RUNNING keeps the law of the Occupancy Map. -/
theorem occupancyAt_of_taken {s t : State} (hc : Coherent s) (hs : StoreSound s) (hd : s.device = .running)
    (hd' : t.device = .running) (ht : Taken s t) (ho : ∀ m, OccupancyAt s m) (m : Nat) : OccupancyAt t m := by
  obtain ⟨u, rfl | hu, hacts⟩ := taken_running hc hs hd hd' ht
  · exact hacts.occupancyAt hs ho m
  · exact hacts.occupancyAt (hs.memoryOp hu) (hu.occupancyAt hs ho) m

/-! ### The end of a FORMAT pass (R98) -/

theorem imageVacant_written {s : State} {n : Nat} (hn : n < Config.maxRecords) :
    (∀ m, m ≠ n → (imageVacant (writeImage s n Record.blank) m ↔ imageVacant s m)) ∧
      imageVacant (writeImage s n Record.blank) n := by
  obtain ⟨hthis, hother⟩ := readWord_writeImage s.memory hn Record.blank
  refine ⟨fun m hm => SameImage.imageVacant fun k hk => hother m k hm hk, ?_⟩
  have hword : (writeImage s n Record.blank).memory.readWord (16 * n) = identityWord Record.blank := hthis 0 (by decide)
  unfold imageVacant
  rw [hword, identityWord_code]
  rfl

/-- With no line in use and the Sweep Hold empty, no record has a copy in the part. -/
theorem no_copy_of_empty {s : State} (hl : ∀ i, lineAt s.lines i = .empty) (hh : s.hold = .none) (n : Nat) (r : Record) :
    ¬IsCopy s n r := by
  rintro (⟨i, c, hi⟩ | hw)
  · rw [hl i] at hi
    cases hi
  · rw [hh] at hw
    cases hw

/-- With no copy in the part, no map entry set and every image VACANT, the law of the Occupancy Map holds. -/
theorem occupancyAgrees_of_vacant {s : State} (hl : ∀ i, lineAt s.lines i = .empty) (hh : s.hold = .none)
    (ho : s.occupancy = []) (hv : ∀ n, n < s.setup.capacity → imageVacant s n) : OccupancyAgrees s := by
  have hno := no_copy_of_empty hl hh
  refine (occupancyAgrees_iff s).2 fun n => ⟨fun hn => ?_, fun hn => ?_, fun _ r hr => absurd hr.isCopy (hno n r)⟩
  · rw [ho, vacantNow_of_absent (hno n)]
    simp [hv n hn]
  · rw [hh] at hn
    cases hn

theorem endFormat_lawful {s : State} (hl : ∀ i, lineAt s.lines i = .empty) (hh : s.hold = .none)
    (hv : ∀ n, n < s.setup.capacity → imageVacant s n) :
    (endFormat s).device = .running ∧ OccupancyAgrees (endFormat s) := by
  have hq : Quiet (enterRunning { s with occupancy := [], owedCount := 0 }) (endFormat s) := completeOperation_quiet _ _
  refine ⟨hq.device, occupancyAgrees_of_vacant (by rw [hq.lines]; exact hl) (by rw [hq.hold]; exact hh)
    (by rw [hq.occupancy]; rfl) fun n hn => ?_⟩
  rw [hq.setup] at hn
  unfold imageVacant
  rw [hq.memory]
  exact hv n hn

/-- The last write of a FORMAT pass over VACANT images ends it in RUNNING with the law of the Occupancy Map. -/
theorem formatWritten_lawful {s : State} {n : Nat} (hn : n < Config.maxRecords) (hlast : n + 1 = s.setup.capacity)
    (hl : ∀ i, lineAt s.lines i = .empty) (hh : s.hold = .none) (hv : ∀ m, m < n → imageVacant s m) :
    (formatWritten s n).device = .running ∧ OccupancyAgrees (formatWritten s n) := by
  obtain ⟨hother, hthis⟩ := imageVacant_written (s := s) hn
  unfold formatWritten
  dsimp only
  rw [if_pos hlast]
  refine endFormat_lawful hl hh fun m hm => ?_
  by_cases hmn : m = n
  · rw [hmn]
    exact hthis
  · have hlt : m < s.setup.capacity := hm
    exact (hother m hmn).2 (hv m (by omega))

theorem formatWriteComplete_lawful {s t : State} {n next : Nat} {rest : List Txn} (hpin : s.resetPin = false)
    (hflight : s.inFlight = .formatWrite n :: rest) (hpass : s.pass = .format next) (hlast : n + 1 = s.setup.capacity)
    (hlines : ∀ i : Fin 64, lineAt s.lines i = .empty) (hhold : s.hold = .none)
    (hvacant : ∀ m, m < n → imageVacant s m) (h : exec .formatWriteComplete s = .next t) :
    t.device = .running ∧ OccupancyAgrees t := by
  have hstep : completing n s (formatWritten { s with inFlight := rest } n) = .next t := by
    rw [← h]
    show _ = execFormatWriteComplete s
    unfold execFormatWriteComplete
    rw [hflight, hpass]
  unfold completing at hstep
  rw [if_neg (by simp [hpin])] at hstep
  split at hstep
  · rename_i hn
    cases hstep
    exact formatWritten_lawful (s := { s with inFlight := rest }) hn hlast hlines hhold hvacant
  · cases hstep

/-- Settles O55: every operation in RUNNING is about one record, whose map entry follows its copy. -/
theorem occupancyLawIsKept : Obligations.OccupancyLawIsKept := by
  unfold Obligations.OccupancyLawIsKept
  refine ⟨fun s t hc he ha ho hd hd' hstep => ?_, fun s t n next c rest hpin hflight hpass _ =>
    formatWriteComplete_lawful hpin hflight hpass⟩
  obtain ⟨l, ht⟩ := step_taken hstep
  have hs : StoreSound { s with pending := l } := (storeSound_iff _).2 ⟨he, ha⟩
  have hat : ∀ n, OccupancyAt { s with pending := l } n := (occupancyAgrees_iff { s with pending := l }).1 ho
  exact (occupancyAgrees_iff t).2 (occupancyAt_of_taken (s := { s with pending := l }) hc hs hd hd' ht hat)

end Sys2Proof.Proofs

/-! SUPPORT. The owed sets that an image carries and that a read recovers (R89, R92, R183). -/

namespace Sys2Proof.Proofs

open Sys2Proof Sys2Proof.Machine Sys2Proof.Safety Sys2Proof.Laws

/-! ### The owed-set copies of an image (R89, R183) -/

theorem ofBits_bits (o : OwedSet) : OwedSet.ofBits o.bits = o := by
  obtain ⟨expired, idle, alert, faulted⟩ := o
  revert expired idle alert faulted
  decide

theorem isEmpty_eq_empty {o : OwedSet} (h : o.isEmpty = true) : o = .empty := by
  obtain ⟨expired, idle, alert, faulted⟩ := o
  simp_all [OwedSet.isEmpty, OwedSet.empty]

theorem identityWord_owed (r : Record) : (identityWord r).extractLsb' 4 4 = r.owed.bits := by
  unfold identityWord
  ext i hi
  simp only [BitVec.getElem_extractLsb', BitVec.getLsbD_append]
  rw [if_neg (by omega), if_neg (by omega), if_pos (by omega), show 4 + i - 3 - 1 = i by omega,
    BitVec.getLsbD_eq_getElem hi]

theorem bodyWord_owed (o : BitVec 4) (b : BitVec 60) : (o ++ b).extractLsb' 60 4 = o := by
  ext i hi
  simp only [BitVec.getElem_extractLsb', BitVec.getLsbD_append]
  rw [if_neg (by omega), show 60 + i - 60 = i by omega, BitVec.getLsbD_eq_getElem hi]

/-- Every word of the image written for a copy carries its owed set (R89). -/
theorem owedCopy_encodeImage (r : Record) {k : Nat} (hk : k < 16) : owedCopy k ((encodeImage r).getD k 0) = r.owed := by
  cases k with
  | zero =>
    show OwedSet.ofBits ((identityWord r).extractLsb' 4 4) = r.owed
    rw [identityWord_owed, ofBits_bits]
  | succ k =>
    have hlen : k < (recordBodies r).length := by
      have hl : (recordBodies r).length = 15 := rfl
      omega
    unfold owedCopy encodeImage
    rw [if_neg (by omega), List.getD_cons_succ, List.getD_eq_getElem _ _ (by simpa using hlen), List.getElem_map,
      bodyWord_owed, ofBits_bits]

/-! ### What the checks of a read give, at most two bits in error in a word (R90, R92) -/

theorem checkWord_of_le_two {d : DataWord} {e : ErrorMask} (h : errorCount e ≤ 2) :
    ((checkWord d e).readable = true ↔ errorCount e ≤ 1) ∧
      ((checkWord d e).readable = true → ∀ lost, (checkWord d e).dataOr lost = d) := by
  unfold checkWord
  split
  · rename_i hc
    exact ⟨by simp [WordCheck.readable, hc], fun _ _ => rfl⟩
  · rename_i hc
    exact ⟨by simp [WordCheck.readable, hc], fun _ _ => rfl⟩
  · rename_i hc
    exact ⟨by simp [WordCheck.readable, hc], fun hr => by cases hr⟩
  · omega

theorem recoverOwed_some {k : Nat} {l : List WordCheck} {o : OwedSet} (h : recoverOwed k l = some o) :
    ∃ j c, l[j]? = some c ∧ c.readable = true ∧ o = owedCopy (k + j) (c.dataOr 0) := by
  induction l generalizing k with
  | nil => cases h
  | cons c t ih =>
    unfold recoverOwed at h
    split at h
    · rename_i hc
      cases h
      exact ⟨0, c, rfl, hc, rfl⟩
    · obtain ⟨j, x, hj, hx, rfl⟩ := ih h
      exact ⟨j + 1, x, hj, hx, by rw [Nat.add_assoc, Nat.add_comm 1 j]⟩

theorem recoverOwed_none {k : Nat} {l : List WordCheck} (h : recoverOwed k l = none) : ∀ c ∈ l, c.readable = false := by
  induction l generalizing k with
  | nil => exact fun c hc => by cases hc
  | cons a t ih =>
    unfold recoverOwed at h
    split at h
    · cases h
    · rename_i ha
      intro c hc
      rcases List.mem_cons.1 hc with rfl | hc
      · simpa using ha
      · exact ih h c hc

theorem getElem?_checkImage {m : Memory} {n j : Nat} {c : WordCheck} (h : (m.checkImage n)[j]? = some c) :
    j < 16 ∧ c = checkWord (m.readWord (16 * n + j)) (m.errorAt (16 * n + j)) := by
  unfold Memory.checkImage at h
  rw [List.getElem?_map, Option.map_eq_some_iff] at h
  obtain ⟨a, ha, rfl⟩ := h
  obtain ⟨hj, rfl⟩ := List.getElem?_eq_some_iff.1 ha
  rw [List.length_range] at hj
  exact ⟨hj, by rw [List.getElem_range]⟩

/-- Of record `n`'s image no word is readable. -/
def AllLost (m : Memory) (n : Nat) : Prop := ∀ k, k < 16 → 1 < errorCount (m.errorAt (16 * n + k))

section

variable {m : Memory} {n : Nat} {o : OwedSet} (herr : ∀ w, errorCount (m.errorAt w) ≤ 2)
  (hcopies : ∀ k, k < 16 → owedCopy k (m.readWord (16 * n + k)) = o)

include herr in
theorem allLost_of_recoverOwed (h : recoverOwed 0 (m.checkImage n) = none) : AllLost m n := fun k hk => by
  have hunreadable := recoverOwed_none h (checkWord (m.readWord (16 * n + k)) (m.errorAt (16 * n + k)))
    (List.mem_map.2 ⟨k, List.mem_range.2 hk, rfl⟩)
  by_contra hle
  rw [(checkWord_of_le_two (herr _)).1.2 (by omega)] at hunreadable
  cases hunreadable

include herr hcopies in
/-- The owed set recovered from an image is the one written. -/
theorem recoverOwed_image {x : OwedSet} (h : recoverOwed 0 (m.checkImage n) = some x) : x = o := by
  obtain ⟨j, c, hj, hc, rfl⟩ := recoverOwed_some h
  obtain ⟨hlt, rfl⟩ := getElem?_checkImage hj
  rw [(checkWord_of_le_two (herr _)).2 hc, Nat.zero_add, hcopies j hlt]

/-- The checks of an image begin with that of word 0. -/
theorem checkImage_cons (m : Memory) (n : Nat) :
    ∃ t, m.checkImage n = checkWord (m.readWord (16 * n)) (m.errorAt (16 * n)) :: t :=
  ⟨_, by unfold Memory.checkImage; rw [List.range_succ_eq_map]; rfl⟩

include herr hcopies in
/-- Decoded with word 0 readable, a record has the owed set written. -/
theorem decodeRecord_owed (st : RecState) (use : Nat)
    (h : ((m.checkImage n).headD .uncorrectable).readable = true) :
    (decodeRecord st (usedWords use (m.checkImage n))).owed = o := by
  have h0 := hcopies 0 (by decide)
  obtain ⟨t, ht⟩ := checkImage_cons m n
  rw [ht, List.headD_cons] at h
  have hdata := (checkWord_of_le_two (herr _)).2 h (Config.lostWord use 0)
  rw [← h0, ht]
  show OwedSet.ofBits (BitVec.extractLsb' 4 4 ((checkWord _ _).dataOr (Config.lostWord use 0))) = _
  rw [hdata]
  rfl

include herr hcopies in
/-- A copy formed for the store has the owed set written; or it is VACANT, its owed set empty; or no word was readable, and
the owed set is lost (R91 to R95). -/
theorem formCopy_owed {source : FaultSource} (hs : source ≠ .resume) (vacant : Bool) (use : Nat) :
    (vacant = true ∧ (formCopy source vacant use (m.checkImage n)).copy.owed = .empty) ∨
      (formCopy source vacant use (m.checkImage n)).copy.owed = o ∨
      (formCopy source vacant use (m.checkImage n)).copy.owed = .empty ∧
        (formCopy source vacant use (m.checkImage n)).dirty = true ∧ AllLost m n := by
  unfold formCopy
  dsimp only
  split
  · rename_i h
    exact .inl ⟨h, rfl⟩
  · split
    · rename_i hread
      rw [Bool.and_eq_true] at hread
      refine .inr (.inl ?_)
      dsimp only [faultedCopy]
      exact decodeRecord_owed herr hcopies _ _ hread.1
    · split
      · rename_i hresume
        simp [hs] at hresume
      · split
        · cases hrec : recoverOwed 0 (m.checkImage n) with
          | none => exact .inr (.inr ⟨rfl, rfl, allLost_of_recoverOwed herr hrec⟩)
          | some x => exact .inr (.inl (recoverOwed_image herr hcopies hrec))
        · rename_i hread
          refine .inr (.inl (decodeRecord_owed herr hcopies _ _ ?_))
          simp only [Bool.or_eq_true, not_or, List.any_eq_true, not_exists, not_and] at hread
          obtain ⟨⟨⟨hlost, -⟩, -⟩, -⟩ := hread
          obtain ⟨t, ht⟩ := checkImage_cons m n
          have hhead := hlost _ (by rw [ht]; exact List.mem_cons_self)
          rw [ht, List.headD_cons]
          simpa using hhead

end

end Sys2Proof.Proofs

/-! SUPPORT. The owed-record count (R13), record by record. -/

namespace Sys2Proof.Proofs

open Sys2Proof Sys2Proof.Machine Sys2Proof.Safety Sys2Proof.Laws

/-! ### What a record owes -/

theorem owes_of_absent {s : State} {n : Nat} (h : ∀ r, ¬IsCopy s n r) : owes s n = !(imageOwed s n).isEmpty := by
  unfold owes
  rw [currentCopy_of_absent h]

theorem StoreSound.owes_of_isCopy {s : State} (h : StoreSound s) {n : Nat} {r : Record} (hc : IsCopy s n r) :
    owes s n = !r.owed.isEmpty := by
  unfold owes
  rw [h.currentCopy_of_isCopy hc]

theorem SameImage.imageOwed {s t : State} {m : Nat} (h : SameImage s t m) : imageOwed t m = imageOwed s m := by
  have h0 := h 0 (by decide)
  unfold Safety.imageOwed
  rw [show 16 * m = 16 * m + 0 from rfl, h0]

theorem Untouched.owes {s t : State} {m : Nat} (h : Untouched s t m) (hs : StoreSound s) (ht : StoreSound t) :
    owes t m = owes s m := by
  unfold Safety.owes
  rw [h.currentCopy hs ht, h.image.imageOwed]

/-- What a record adds to the number of records that owe. -/
def dueNow (s : State) (n : Nat) : Nat := if owes s n then 1 else 0

theorem StoreSound.dueNow_of_isCopy {s : State} (h : StoreSound s) {n : Nat} {r : Record} (hc : IsCopy s n r) :
    dueNow s n = due r := by
  unfold dueNow due
  rw [h.owes_of_isCopy hc]
  cases r.owed.isEmpty <;> rfl

/-! ### How many records owe -/

theorem countP_range_of_ge {N n : Nat} {p q : Nat → Bool} (hn : N ≤ n) (h : ∀ m, m ≠ n → q m = p m) :
    (List.range N).countP q = (List.range N).countP p :=
  List.countP_congr fun m hm => by
    rw [List.mem_range] at hm
    rw [h m (by omega)]

/-- Two counts that differ at one place. -/
theorem countP_range_of_lt {N n : Nat} {p q : Nat → Bool} (hn : n < N) (h : ∀ m, m ≠ n → q m = p m) :
    (List.range N).countP q + (if p n then 1 else 0) = (List.range N).countP p + (if q n then 1 else 0) := by
  induction N with
  | zero => omega
  | succ N ih =>
    rw [List.range_succ, List.countP_append, List.countP_append, List.countP_singleton, List.countP_singleton]
    by_cases hnN : n = N
    · subst hnN
      rw [countP_range_of_ge (Nat.le_refl n) h]
      omega
    · have hlast := h N fun e => hnN e.symm
      have hrest := ih (by omega)
      rw [hlast]
      omega

section

variable {s t : State} {n : Nat} (h : Turns s t n) (hs : StoreSound s) (ht : StoreSound t)

include h hs ht

/-- The number of records that owe follows what record `n` owes. -/
theorem Turns.owing_dueNow (hn : n < s.setup.capacity) : owing t + dueNow s n = owing s + dueNow t n := by
  unfold Safety.owing dueNow
  rw [h.setup]
  exact countP_range_of_lt hn fun m hm => (h.others m hm).owes hs ht

end

theorem dueNow_le_owing {s : State} {n : Nat} (hn : n < s.setup.capacity) : dueNow s n ≤ owing s := by
  unfold dueNow
  split
  · rename_i ho
    exact List.countP_pos_iff.2 ⟨n, List.mem_range.2 hn, ho⟩
  · exact Nat.zero_le _

/-! ### The law, record by record -/

/-- What the law of R13 says of record `n`. -/
structure OwedAt (s : State) (n : Nat) : Prop where
  vacant : VacantNow s n → owes s n = false
  words : ∀ k, k < 16 → owedCopy k (s.memory.readWord (16 * n + k)) = imageOwed s n
  clean : ∀ r, CleanCopy s n r → r.owed = imageOwed s n

theorem owedAgrees_iff (s : State) :
    OwedAgrees s ↔ owing s ≤ s.owedCount ∧ ∀ n, n < s.setup.capacity → OwedAt s n := by
  unfold OwedAgrees
  refine and_congr_right fun _ => ⟨?_, fun h => ?_⟩
  · rintro ⟨h1, h2, h3⟩ n hn
    refine ⟨h1 n hn, fun k => h2 n k hn, fun r hr => ?_⟩
    obtain ⟨i, f, p, hl⟩ := (cleanCopy_iff s n r).1 hr
    exact h3 i n r f p hn hl
  · exact ⟨fun n hn => (h n hn).vacant, fun n k hn => (h n hn).words k, fun i n r f p hn hl =>
      (h n hn).clean r ((cleanCopy_iff s n r).2 ⟨i, f, p, hl⟩)⟩

/-- The owed-record count exceeds the number of records that owe by as much as before. -/
def Balanced (s t : State) : Prop := t.owedCount + owing s = s.owedCount + owing t

namespace OwedAt

variable {s t : State} {n m : Nat}

theorem untouched (h : OwedAt s m) (hs : StoreSound s) (ht : StoreSound t) (hu : Untouched s t m) : OwedAt t m := by
  refine ⟨fun hv => ?_, fun k hk => ?_, fun r hr => ?_⟩
  · rw [hu.owes hs ht]
    exact h.vacant ((hu.vacantNow hs ht).1 hv)
  · rw [hu.image k hk, hu.image.imageOwed]
    exact h.words k hk
  · rw [hu.image.imageOwed]
    exact h.clean r ((hu.cleanCopy r).1 hr)

/-- A VACANT copy owes nothing. -/
theorem due_of_vacant (h : OwedAt s n) (hs : StoreSound s) {r : Record} (hc : IsCopy s n r) (hv : r.state = .vacant) :
    due r = 0 := by
  rw [← hs.dueNow_of_isCopy hc, dueNow, h.vacant ((hs.vacantNow_of_isCopy hc).2 hv)]
  rfl

/-- The law of a record whose image says what it said and of which the part holds a copy. -/
theorem of_isCopy (h : OwedAt s n) (ht : StoreSound t) {q : Record} (after : IsCopy t n q) (image : SameImage s t n)
    (vacant : q.state = .vacant → due q = 0) (clean : ∀ p, CleanCopy t n p → p.owed = imageOwed s n) :
    OwedAt t n := by
  refine ⟨fun hv => ?_, fun k hk => ?_, fun p hp => ?_⟩
  · have hdue := vacant ((ht.vacantNow_of_isCopy after).1 hv)
    rw [ht.owes_of_isCopy after]
    unfold due at hdue
    split at hdue
    · rename_i hempty
      rw [hempty]
      rfl
    · cases hdue
  · rw [image k hk, image.imageOwed]
    exact h.words k hk
  · rw [image.imageOwed]
    exact clean p hp

end OwedAt

/-- The image to which a copy was handed over says what the copy said. -/
structure SaysAs (t : State) (n : Nat) (r : Record) : Prop where
  vacant : imageVacant t n ↔ r.state = .vacant
  owed : ∀ k, k < 16 → owedCopy k (t.memory.readWord (16 * n + k)) = r.owed

theorem saysAs_of_handed {s t : State} {n : Nat} {r : Record} (ho : OwedAt s n)
    (hv : ∀ p, CleanCopy s n p → (p.state = .vacant ↔ imageVacant s n))
    (image : CleanCopy s n r ∧ SameImage s t n ∨
      ∀ k, k < 16 → t.memory.readWord (16 * n + k) = (encodeImage r).getD k 0) : SaysAs t n r := by
  rcases image with ⟨hclean, hsame⟩ | hwritten
  · refine ⟨by rw [hsame.imageVacant, hv r hclean], fun k hk => ?_⟩
    rw [hsame k hk, ho.words k hk, ho.clean r hclean]
  · refine ⟨?_, fun k hk => by rw [hwritten k hk, owedCopy_encodeImage r hk]⟩
    have hword : t.memory.readWord (16 * n) = identityWord r := hwritten 0 (by decide)
    unfold imageVacant
    rw [hword, identityWord_code, code_eq_zero]

namespace SaysAs

variable {t : State} {n : Nat} {r : Record}

theorem imageOwed (h : SaysAs t n r) : imageOwed t n = r.owed := h.owed 0 (by decide)

theorem dueNow (h : SaysAs t n r) (hno : ∀ q, ¬IsCopy t n q) : dueNow t n = due r := by
  unfold Proofs.dueNow due
  rw [owes_of_absent hno, h.imageOwed]
  cases r.owed.isEmpty <;> rfl

theorem owedAt (h : SaysAs t n r) (hno : ∀ q, ¬IsCopy t n q) (hr : r.state = .vacant → due r = 0) : OwedAt t n := by
  refine ⟨fun hv => ?_, fun k hk => by rw [h.owed k hk, h.imageOwed], fun p hp => absurd hp.isCopy (hno p)⟩
  have hdue := hr (h.vacant.1 ((vacantNow_of_absent hno).1 hv))
  rw [← h.dueNow hno] at hdue
  unfold Proofs.dueNow at hdue
  split at hdue
  · cases hdue
  · simp_all

end SaysAs

/-- Every record number that the part holds a copy of is below the bound. -/
theorem NumbersIn.of_isCopy {b : Nat} {s : State} (h : NumbersIn b s) {n : Nat} {r : Record} (hc : IsCopy s n r) :
    n < b := by
  rcases hc with ⟨i, c, hi⟩ | hw
  · exact h.lines i n ((mem_lineNumbers _ n).2 (.inl (copyNumber_of_heldCopy hi).1))
  · exact h.hold n (by rw [hw]; rfl)

/-- The law of R13 in a sound store of which every number held is below the capacity. -/
structure OwedLaw (s : State) : Prop where
  sound : StoreSound s
  numbers : NumbersBelow s.setup.capacity s
  vacancy : ∀ n, OccupancyAt s n
  count : owing s ≤ s.owedCount
  records : ∀ n, n < s.setup.capacity → OwedAt s n

/-- What one operation leaves of the law, and of the excess unless a record's image is lost as a whole. -/
structure Settled (s t : State) (n : Nat) : Prop where
  record : OwedAt t n
  count : owing t ≤ t.owedCount
  balance : Balanced s t ∨ AllLost t.memory n

/-- A copy formed for the store has the owed set of the image, unless no word of the image was readable. -/
theorem formedOwed {s : State} {m : Memory} {n : Nat} {f : Formed} {source : FaultSource} {use : Nat}
    (ho : ∀ n, OccupancyAt s n) (hrec : OwedAt s n) (hn : n < s.setup.capacity)
    (herr : ∀ w, errorCount (m.errorAt w) ≤ 2)
    (hcopies : ∀ k, k < 16 → owedCopy k (m.readWord (16 * n + k)) = imageOwed s n) (before : ∀ r, ¬IsCopy s n r)
    (read : f = formCopy source (!occupied s n) use (m.checkImage n)) (store : source ≠ .resume) :
    f.copy.owed = imageOwed s n ∨ f.copy.owed = .empty ∧ f.dirty = true ∧ AllLost m n := by
  rcases formCopy_owed herr hcopies store (!occupied s n) use with ⟨hvacant, howed⟩ | howed | howed <;>
    rw [← read] at howed
  · have hnow : VacantNow s n := by
      by_contra hno
      simp [occupied, ((ho n).entry hn).2 hno] at hvacant
    have hempty := hrec.vacant hnow
    rw [owes_of_absent before, Bool.not_eq_false'] at hempty
    exact .inl (howed.trans (isEmpty_eq_empty hempty).symm)
  · exact .inl howed
  · exact .inr howed

section

variable {s t : State} {n : Nat} (h : Turns s t n) (hs : OwedLaw s) (ht : StoreSound t) (hn : n < s.setup.capacity)

include h hs ht hn

/-- What the count and the number of records that owe come to as record `n` comes to owe `due q` where it owed `due p`. -/
theorem Turns.count_of_due {p q : Record} (hp : dueNow s n = due p) (hq : dueNow t n = due q)
    (hc : t.owedCount + due p = s.owedCount + due q) : owing t ≤ t.owedCount ∧ Balanced s t := by
  have howing := h.owing_dueNow hs.sound ht hn
  have hle := hs.count
  unfold Balanced
  omega

theorem Turns.settled_changed {r q : Record} (before : IsCopy s n r) (after : IsCopy t n q) (image : SameImage s t n)
    (clean : ∀ p, CleanCopy t n p → p = r ∧ CleanCopy s n r) (change : CopyChange n s r t q) : Settled s t n := by
  have hrec := hs.records n hn
  have hvacant := hrec.due_of_vacant hs.sound before
  have hr := hs.sound.dueNow_of_isCopy before
  have hle := dueNow_le_owing hn
  have hcount := hs.count
  obtain ⟨h1, h2⟩ := h.count_of_due hs ht hn hr (ht.dueNow_of_isCopy after) (change.count hvacant (by omega))
  refine ⟨hrec.of_isCopy ht after image (change.clear hvacant) fun p hp => ?_, h1, .inl h2⟩
  obtain ⟨rfl, hc⟩ := clean p hp
  exact hrec.clean p hc

theorem Turns.settled_handed {r : Record} (before : IsCopy s n r) (after : ∀ q, ¬IsCopy t n q)
    (image : CleanCopy s n r ∧ SameImage s t n ∨
      ∀ k, k < 16 → t.memory.readWord (16 * n + k) = (encodeImage r).getD k 0)
    (count : t.owedCount = s.owedCount) : Settled s t n := by
  have hrec := hs.records n hn
  have hsays := saysAs_of_handed hrec ((hs.vacancy n).clean hn) image
  obtain ⟨h1, h2⟩ := h.count_of_due hs ht hn (hs.sound.dueNow_of_isCopy before) (hsays.dueNow after)
    (by rw [count])
  exact ⟨hsays.owedAt after (hrec.due_of_vacant hs.sound before), h1, .inl h2⟩

theorem Turns.settled_formed {q : Record} {f : Formed} {source : FaultSource} {use : Nat}
    (herr : ∀ w, errorCount (t.memory.errorAt w) ≤ 2) (before : ∀ r, ¬IsCopy s n r) (after : IsCopy t n q)
    (image : SameImage s t n) (clean : ∀ p, CleanCopy t n p → p = f.copy ∧ f.dirty = false)
    (read : f = formCopy source (!occupied s n) use (t.memory.checkImage n)) (store : source ≠ .resume)
    (change : CopyChange n s f.copy t q) : Settled s t n := by
  have hrec := hs.records n hn
  have hvacant : f.copy.state = .vacant → dueNow s n = 0 := fun hv => by
    rw [read, formCopy_vacant_iff store] at hv
    have hnow : VacantNow s n := by
      by_contra hno
      have hocc := ((hs.vacancy n).entry hn).2 hno
      simp [occupied, hocc] at hv
    simp [dueNow, hrec.vacant hnow]
  have hnow : dueNow s n = if (imageOwed s n).isEmpty then 0 else 1 := by
    rw [dueNow, owes_of_absent before]
    cases (imageOwed s n).isEmpty <;> rfl
  have hcount := hs.count
  have hle := dueNow_le_owing hn
  have howing := h.owing_dueNow hs.sound ht hn
  have hafter := ht.dueNow_of_isCopy after
  have hcopies : ∀ k, k < 16 → owedCopy k (t.memory.readWord (16 * n + k)) = imageOwed s n := fun k hk => by
    rw [image k hk, hrec.words k hk]
  rcases formedOwed hs.vacancy hrec hn herr hcopies before read store with howed | ⟨howed, hdirty, hlost⟩
  · have hdue : dueNow s n = due f.copy := by rw [hnow, due, howed]
    obtain ⟨h1, h2⟩ := h.count_of_due hs ht hn hdue hafter
      (change.count (fun hv => hdue ▸ hvacant hv) (by omega))
    refine ⟨hrec.of_isCopy ht after image (change.clear fun hv => hdue ▸ hvacant hv) fun p hp => ?_, h1, .inl h2⟩
    obtain ⟨rfl, -⟩ := clean p hp
    exact howed
  · have hdue : due f.copy = 0 := by rw [due, howed]; rfl
    have hchange := change.count (fun _ => hdue) (by omega)
    refine ⟨hrec.of_isCopy ht after image (change.clear fun _ => hdue) fun p hp => ?_, by omega, .inr hlost⟩
    obtain ⟨-, hd⟩ := clean p hp
    rw [hdirty] at hd
    cases hd

/-- What one operation makes of the record it is about and of the count. -/
theorem Turns.settled (herr : ∀ w, errorCount (t.memory.errorAt w) ≤ 2) : Settled s t n := by
  cases h.turn with
  | kept same count =>
    have hdue : dueNow t n = dueNow s n := by rw [dueNow, dueNow, same.owes hs.sound ht]
    have howing := h.owing_dueNow hs.sound ht hn
    have hcount := hs.count
    refine ⟨(hs.records n hn).untouched hs.sound ht same, by omega, .inl ?_⟩
    unfold Balanced
    omega
  | changed before after image clean change => exact h.settled_changed hs ht hn before after image clean change
  | handed before after image _ count => exact h.settled_handed hs ht hn before after image count
  | formed before after image clean read store change =>
    exact h.settled_formed hs ht hn herr before after image clean read store change

end

end Sys2Proof.Proofs

/-! SUPPORT. What a step in RUNNING makes of the owed-record count (R13). -/

namespace Sys2Proof.Proofs

open Sys2Proof Sys2Proof.Machine Sys2Proof.Safety Sys2Proof.Laws

/-- The image of a record below the capacity is lost as a whole. -/
def SomeLost (capacity : Nat) (m : Memory) : Prop := ∃ n, n < capacity ∧ AllLost m n

/-- What a run of operations leaves: the law, and the excess unless an image is lost. -/
structure LawKept (s t : State) : Prop where
  law : OwedLaw t
  setup : t.setup = s.setup
  balance : Balanced s t ∨ SomeLost s.setup.capacity t.memory

theorem LawKept.refl {s : State} (h : OwedLaw s) : LawKept s s := ⟨h, rfl, .inl rfl⟩

/-- Operations one after the other, the later ones leaving record memory as it is. -/
theorem LawKept.trans {s t u : State} (h1 : LawKept s t) (h2 : LawKept t u) (hm : u.memory = t.memory) :
    LawKept s u := by
  refine ⟨h2.law, h2.setup.trans h1.setup, ?_⟩
  rcases h1.balance with hb | hlost
  · rcases h2.balance with hb' | hlost
    · unfold Balanced at hb hb' ⊢
      exact .inl (by omega)
    · exact .inr (h1.setup ▸ hlost)
  · exact .inr (hm ▸ hlost)

/-- An operation about a number beyond the capacity leaves every record as it was. -/
theorem Turns.kept_of_ge {s t : State} {n : Nat} (h : Turns s t n) (hs : NumbersIn s.setup.capacity s)
    (ht : NumbersIn s.setup.capacity t) (hn : s.setup.capacity ≤ n) : t.owedCount = s.owedCount := by
  have beyond {u : State} {r : Record} (hu : NumbersIn s.setup.capacity u) (hc : IsCopy u n r) : False :=
    absurd (hu.of_isCopy hc) (by omega)
  cases h.turn with
  | kept _ count => exact count
  | changed before _ _ _ _ => exact (beyond hs before).elim
  | handed before _ _ _ _ => exact (beyond hs before).elim
  | formed _ after _ _ _ _ _ => exact (beyond ht after).elim

/-- One operation keeps the law of R13. -/
theorem Turns.lawKept {s t : State} {n : Nat} (h : Turns s t n) (hs : OwedLaw s) (ht : StoreSound t)
    (hnum : NumbersBelow s.setup.capacity t) (herr : ∀ w, errorCount (t.memory.errorAt w) ≤ 2) : LawKept s t := by
  have hvacancy := h.occupancyAt hs.sound ht hs.vacancy
  have hothers (m : Nat) (hm : m < s.setup.capacity) (hmn : m ≠ n) : OwedAt t m :=
    (hs.records m hm).untouched hs.sound ht (h.others m hmn)
  have law (hcount : owing t ≤ t.owedCount) (hrec : n < s.setup.capacity → OwedAt t n) : OwedLaw t :=
    ⟨ht, h.setup ▸ hnum, hvacancy, hcount, fun m hm => by
      rw [h.setup] at hm
      by_cases hmn : m = n
      · exact hmn ▸ hrec (hmn ▸ hm)
      · exact hothers m hm hmn⟩
  by_cases hn : n < s.setup.capacity
  · obtain ⟨hrec, hcount, hbalance⟩ := h.settled hs ht hn herr
    exact ⟨law hcount fun _ => hrec, h.setup, hbalance.imp id fun hlost => ⟨n, hn, hlost⟩⟩
  · have hsame := h.kept_of_ge hs.numbers.held hnum.held (by omega)
    have howing : owing t = owing s := by
      unfold owing
      rw [h.setup]
      exact countP_range_of_ge (by omega) fun m hm => (h.others m hm).owes hs.sound ht
    refine ⟨law (by rw [howing, hsame]; exact hs.count) fun hlt => absurd hlt hn, h.setup, .inl ?_⟩
    unfold Balanced
    rw [howing, hsame]

theorem StoreOp.memory {s t : State} (h : StoreOp s t) : t.memory = s.memory := by
  cases h with
  | quiet hq => exact hq.memory
  | claimed _ _ _ => rfl
  | opened _ _ _ ho =>
    obtain ⟨v, ho⟩ := openedFrom_of_openEntry ho
    exact ho.memory
  | sweepBegun _ _ _ => rfl

theorem Acts.memory {s t : State} (h : Acts s t) : t.memory = s.memory := by
  induction h with
  | refl => rfl
  | tail _ ho ih => exact ho.memory.trans ih

/-- The operations of the Record Store keep the law of R13. -/
theorem Acts.lawKept {s t : State} (h : Acts s t) (hs : OwedLaw s)
    (herr : ∀ w, errorCount (t.memory.errorAt w) ≤ 2) : LawKept s t := by
  induction h with
  | refl => exact .refl hs
  | tail _ hop ih =>
    rw [hop.memory] at herr
    have hmid := ih herr
    obtain ⟨n, hturn⟩ := hmid.law.sound.turns_storeOp hop
    exact hmid.trans (hturn.lawKept hmid.law (hmid.law.sound.storeOp hop) (hmid.law.numbers.storeOp hop)
      (by rw [hop.memory]; exact herr)) hop.memory

/-- The memory path keeps the law of R13. -/
theorem MemoryOp.lawKept {s t : State} (h : MemoryOp s t) (hs : OwedLaw s)
    (herr : ∀ w, errorCount (t.memory.errorAt w) ≤ 2) : LawKept s t := by
  obtain ⟨n, hturn⟩ := hs.sound.turns_memoryOp (fun n => (hs.vacancy n).reading) h
  exact hturn.lawKept hs (hs.sound.memoryOp h) (hs.numbers.memoryOp h) herr

/-- A step from RUNNING to RUNNING keeps the law of R13. -/
theorem lawKept_of_taken {s t : State} (hc : Coherent s) (hs : OwedLaw s) (hd : s.device = .running)
    (hd' : t.device = .running) (ht : Taken s t) (herr : ∀ w, errorCount (t.memory.errorAt w) ≤ 2) : LawKept s t := by
  obtain ⟨u, rfl | hu, hacts⟩ := taken_running hc hs.sound hd hd' ht
  · exact hacts.lawKept hs herr
  · have hmid := hu.lawKept hs (by rw [← hacts.memory]; exact herr)
    exact hmid.trans (hacts.lawKept hmid.law herr) hacts.memory

/-- The laws of R13 and R18 with the numbers below the capacity, as the obligation states them. -/
theorem owedLaw_iff (s : State) :
    OwedLaw s ↔ (EntriesDistinct s ∧ StoreAgrees s) ∧ OccupancyAgrees s ∧ RecordsFit s ∧ OwedAgrees s := by
  rw [← storeSound_iff, occupancyAgrees_iff, recordsFit_iff, owedAgrees_iff]
  exact ⟨fun ⟨h1, h2, h3, h4, h5⟩ => ⟨h1, h3, h2, h4, h5⟩, fun ⟨h1, h3, h2, h4, h5⟩ => ⟨h1, h2, h3, h4, h5⟩⟩

/-- Settles O56: every operation in RUNNING is about one record, and the count follows what that record owes, unless no
word of its image is readable. -/
theorem owedCountIsKept : Obligations.OwedCountIsKept := by
  unfold Obligations.OwedCountIsKept
  intro s t hc he ha ho hr hw hd hd' hstep herr
  obtain ⟨l, ht⟩ := step_taken hstep
  have hlaw : OwedLaw { s with pending := l } := (owedLaw_iff { s with pending := l }).2 ⟨⟨he, ha⟩, ho, hr, hw⟩
  obtain ⟨hkept, -, hbalance⟩ := lawKept_of_taken (s := { s with pending := l }) hc hlaw hd hd' ht herr
  obtain ⟨-, -, hfit, howed⟩ := (owedLaw_iff t).1 hkept
  refine ⟨hfit, howed, fun hreadable => ?_⟩
  rcases hbalance with hb | ⟨n, hn, hlost⟩
  · exact hb
  · obtain ⟨k, hk, hle⟩ := hreadable n hn
    exact absurd (hlost k hk) (by omega)

end Sys2Proof.Proofs

/-! SUPPORT. Conformance Evaluation (02_conformance_evaluation.md): what the refresh, the checks and each step of an
evaluation come to, said once. -/

namespace Sys2Proof.Proofs

open Sys2Proof Sys2Proof.Machine

/-! ### The refresh (R27) -/

/-- The standing credit is at most the depth, so 32 bits hold it. -/
theorem refresh_budget (r : Record) (now : Tick) : (r.refresh now).budget.toNat = r.standingCredit now := by
  have hcap : r.standingCredit now ≤ r.depth.toNat := Nat.min_le_left _ _
  have hdepth := r.depth.isLt
  simp only [Record.refresh, BitVec.toNat_ofNat]
  exact Nat.mod_eq_of_lt (by omega)

/-- Ticks counted in two parts, as long as the parts do not wrap together (R23). -/
theorem elapsed_add (t0 t1 t2 : Tick) (h : (t1 - t0).toNat + (t2 - t1).toNat < 2 ^ 48) :
    (t2 - t0).toNat = (t1 - t0).toNat + (t2 - t1).toNat := by
  have hsum : t2 - t0 = (t1 - t0) + (t2 - t1) := by ring
  rw [hsum, BitVec.toNat_add, Nat.mod_eq_of_lt h]

/-- Credit capped on the way is capped at the end all the same. -/
theorem min_min_add (depth a b : Nat) : min depth (min depth a + b) = min depth (a + b) := by omega

theorem standingCredit_refresh (r : Record) (t1 t2 : Tick)
    (h : (t1 - r.lastUpdate).toNat + (t2 - t1).toNat < 2 ^ 48) :
    (r.refresh t1).standingCredit t2 = r.standingCredit t2 := by
  have hfirst := refresh_budget r t1
  have helapsed := elapsed_add r.lastUpdate t1 t2 h
  calc (r.refresh t1).standingCredit t2
      = min r.depth.toNat ((r.refresh t1).budget.toNat + (t2 - t1).toNat * r.sustainedRate.toNat) := rfl
    _ = min r.depth.toNat (r.budget.toNat + (t1 - r.lastUpdate).toNat * r.sustainedRate.toNat +
          (t2 - t1).toNat * r.sustainedRate.toNat) := by rw [hfirst, Record.standingCredit, min_min_add]
    _ = r.standingCredit t2 := by rw [Record.standingCredit, helapsed, Nat.add_mul, Nat.add_assoc]

/-- Settles O17: the second refresh adds the credit of the ticks since the first, and both cap at the depth. -/
theorem refreshResult : Obligations.RefreshResult := by
  unfold Obligations.RefreshResult
  refine ⟨fun r now => ⟨refresh_budget r now, rfl⟩, fun r t1 t2 h => ?_⟩
  have hcredit := standingCredit_refresh r t1 t2 h
  calc (r.refresh t1).refresh t2
      = { r with budget := BitVec.ofNat 32 ((r.refresh t1).standingCredit t2), lastUpdate := t2 } := rfl
    _ = r.refresh t2 := by rw [hcredit]; rfl

/-! ### Counters and checks (R11, R32, R34, R35, R39) -/

theorem satInc_toNat (c : RecordCounter) : (satInc c).toNat = min (c.toNat + 1) 4294967295 := by
  have hlt := c.isLt
  unfold satInc
  split
  · rename_i h
    subst h
    rfl
  · rename_i h
    have hne : c.toNat ≠ 4294967295 := fun e => h (BitVec.eq_of_toNat_eq e)
    rw [BitVec.toNat_add, Nat.mod_eq_of_lt] <;> simp <;> omega

theorem expiryReached_iff (r : Record) (now : Tick) :
    r.expiryReached now = true ↔ ∃ e, r.expiry = some e ∧ e.toNat ≤ now.toNat := by
  unfold Record.expiryReached
  cases r.expiry <;> simp

theorem expiryReached_false {r : Record} {now : Tick} :
    r.expiryReached now = false ↔ ∀ e, r.expiry = some e → now.toNat < e.toNat := by
  unfold Record.expiryReached
  cases r.expiry <;> simp

theorem violatesPeak_iff (r : Record) (now : Tick) :
    r.violatesPeak now = true ↔
      r.peakInterval ≠ 0 ∧
        ∃ last, r.lastConform = some last ∧ (now - last).toNat < r.peakInterval.toNat - r.peakTolerance.toNat := by
  unfold Record.violatesPeak Record.minimumSpacing
  cases r.lastConform <;> simp

theorem violatesSustained_iff (r : Record) : r.violatesSustained = true ↔ r.budget.toNat < 4096 := by
  simp [Record.violatesSustained]

theorem alertDue_iff (r : Record) :
    r.alertDue = true ↔
      ∃ t, r.alertThreshold = some t ∧ r.alertFired = false ∧ t.toNat ≤ r.excessDiscarded.toNat := by
  unfold Record.alertDue
  cases r.alertThreshold <;> simp

/-! ### Steps 1 to 4 (R29 to R32) -/

variable {r : Record} {label : BitVec 24} {now : Tick}

theorem evaluate_vacant (h : r.state = .vacant) : evaluate r label now = ⟨r, .discard .unadmitted, false, none⟩ := by
  simp [evaluate, h]

theorem evaluate_faulted (h : r.state = .faulted) : evaluate r label now = ⟨r, .discard .fault, false, none⟩ := by
  simp [evaluate, h]

theorem evaluate_mismatch (h : r.admitted = true) (hl : label ≠ r.label) :
    evaluate r label now = ⟨r, .discard .mismatch, false, none⟩ := by
  unfold evaluate
  cases hs : r.state <;> simp [Record.admitted, hs] at h <;> simp [hl]

theorem evaluate_closed (h : r.state = .held ∨ r.state = .expired) (hl : label = r.label) :
    evaluate r label now = ⟨r.discardState now, .discard .state, true, none⟩ := by
  rcases h with h | h <;> simp [evaluate, h, hl]

theorem evaluate_expiring (h : r.state = .active) (hl : label = r.label) (he : r.expiryReached now = true) :
    evaluate r label now =
      ⟨{ r with state := .expired }.discardState now, .discard .state, true, some (.expired, .expired)⟩ := by
  simp [evaluate, h, hl, he]

theorem evaluate_contract (h : r.state = .active) (hl : label = r.label) (he : r.expiryReached now = false) :
    evaluate r label now = judgeContract r now := by
  simp [evaluate, h, hl, he]

/-- Steps 1 to 4 discard the cell, unless the record is ACTIVE, the label its own and the expiry not reached. -/
theorem evaluate_discards_or_contract (r : Record) (label : BitVec 24) (now : Tick) :
    (∃ reason, (evaluate r label now).verdict = .discard reason) ∨
      r.state = .active ∧ label = r.label ∧ r.expiryReached now = false := by
  have mismatched (ha : r.admitted = true) (hl : label ≠ r.label) :
      ∃ reason, (evaluate r label now).verdict = .discard reason := ⟨_, by rw [evaluate_mismatch ha hl]⟩
  cases hs : r.state with
  | vacant => exact .inl ⟨_, by rw [evaluate_vacant hs]⟩
  | faulted => exact .inl ⟨_, by rw [evaluate_faulted hs]⟩
  | held =>
    by_cases hl : label = r.label
    · exact .inl ⟨_, by rw [evaluate_closed (.inl hs) hl]⟩
    · exact .inl (mismatched (by simp [Record.admitted, hs]) hl)
  | expired =>
    by_cases hl : label = r.label
    · exact .inl ⟨_, by rw [evaluate_closed (.inr hs) hl]⟩
    · exact .inl (mismatched (by simp [Record.admitted, hs]) hl)
  | active =>
    by_cases hl : label = r.label
    · cases he : r.expiryReached now with
      | true => exact .inl ⟨_, by rw [evaluate_expiring hs hl he]⟩
      | false => exact .inr ⟨rfl, hl, rfl⟩
    · exact .inl (mismatched (by simp [Record.admitted, hs]) hl)

/-- Settles O18: each of steps 1 to 4 discards the cell, so a verdict PASS or MARK comes from the contract. -/
theorem evaluationDiscards : Obligations.EvaluationDiscards := by
  unfold Obligations.EvaluationDiscards
  refine ⟨satInc_toNat, fun r label now => ⟨evaluate_vacant, evaluate_faulted, evaluate_mismatch, ?_, ?_⟩, ?_⟩
  · exact fun hs hl => evaluate_closed hs hl
  · exact fun e hs hl he hle => evaluate_expiring hs hl ((expiryReached_iff r now).2 ⟨e, he, hle⟩)
  · intro r label now hv
    rcases evaluate_discards_or_contract r label now with ⟨reason, hd⟩ | ⟨hs, hl, he⟩
    · rw [hd] at hv
      simp at hv
    · exact ⟨hs, hl, expiryReached_false.1 he⟩

/-! ### Steps 5 to 10 (R33 to R39) -/

/-- Steps 9 and 10: last seen and idle reported, and the alert where its conditions hold (R38, R39). -/
theorem judgeContract_of_outcome {q : Record} {v : Verdict} (h : (r.refresh now).decideOutcome now = (q, v)) :
    ((∃ t, q.alertThreshold = some t ∧ q.alertFired = false ∧ t.toNat ≤ q.excessDiscarded.toNat) →
      judgeContract r now =
        ⟨{ q with lastSeen := now, idleReported := false, alertFired := true }, v, true,
          some (.alert, .alert q.excessDiscarded)⟩) ∧
    (¬(∃ t, q.alertThreshold = some t ∧ q.alertFired = false ∧ t.toNat ≤ q.excessDiscarded.toNat) →
      judgeContract r now = ⟨{ q with lastSeen := now, idleReported := false }, v, true, none⟩) := by
  have hseen : ({ q with lastSeen := now, idleReported := false } : Record).alertDue = q.alertDue := rfl
  rw [← alertDue_iff]
  unfold judgeContract
  simp only [h, hseen]
  exact ⟨fun hdue => if_pos hdue, fun hdue => if_neg hdue⟩

theorem decideOutcome_peak (hp : r.violatesPeak now = true) : r.decideOutcome now = r.applyAction r.peakAction := by
  simp [Record.decideOutcome, hp]

theorem decideOutcome_sustained (hp : ¬r.violatesPeak now = true) (hs : r.violatesSustained = true) :
    r.decideOutcome now = r.applyAction r.sustainedAction := by
  simp [Record.decideOutcome, hp, hs]

theorem decideOutcome_pass (hp : ¬r.violatesPeak now = true) (hs : ¬r.violatesSustained = true) :
    r.decideOutcome now = (r.passCell now, .pass) := by
  simp [Record.decideOutcome, hp, hs]

theorem applyAction_mark (r : Record) : r.applyAction 0 = ({ r with marked := satInc r.marked }, .mark) := rfl

theorem applyAction_discard (r : Record) :
    r.applyAction 1 = ({ r with excessDiscarded := satInc r.excessDiscarded }, .discard .excess) := rfl

/-- The action of a violated check is the outcome: the peak action before the sustained one (R36, R37). -/
theorem decideOutcome_action {action : BitVec 2}
    (h : (r.violatesPeak now = true ∧ r.peakAction = action) ∨
      (¬r.violatesPeak now = true ∧ r.violatesSustained = true ∧ r.sustainedAction = action)) :
    r.decideOutcome now = r.applyAction action := by
  rcases h with ⟨hp, rfl⟩ | ⟨hp, hs, rfl⟩
  · exact decideOutcome_peak hp
  · exact decideOutcome_sustained hp hs

/-- Settles O19: the outcome is decided on the refreshed record, whose fields but budget and last update are the
record's own. -/
theorem evaluationUnderContract : Obligations.EvaluationUnderContract := by
  unfold Obligations.EvaluationUnderContract
  refine ⟨satInc_toNat, fun r now hs hexpiry => ?_⟩
  dsimp only
  have hpeak : (r.refresh now).violatesPeak now = true ↔ r.peakInterval ≠ 0 ∧
      ∃ last, r.lastConform = some last ∧ (now - last).toNat < r.peakInterval.toNat - r.peakTolerance.toNat :=
    violatesPeak_iff _ _
  rw [evaluate_contract hs rfl (expiryReached_false.2 hexpiry), ← hpeak, ← violatesSustained_iff]
  refine ⟨fun hp hu => ?_, fun h => ?_, fun h => ?_⟩
  · exact judgeContract_of_outcome (decideOutcome_pass hp hu)
  · exact judgeContract_of_outcome ((decideOutcome_action h).trans (applyAction_mark _))
  · exact judgeContract_of_outcome ((decideOutcome_action h).trans (applyAction_discard _))

end Sys2Proof.Proofs

/-! SUPPORT. What an event can do, said once: the effect it has on the state, and the conditions under which it does. -/

namespace Sys2Proof.Proofs

open Sys2Proof Sys2Proof.Machine Sys2Proof.Safety Sys2Proof.Laws

/-! ### The effects -/

/-- Nothing differs but the queues that a read takes heads from, the link's own fields and the last acceptance code:
what a transaction on the management link may do beside accepting a command (R159 to R166). -/
def LinkOnly (s t : State) : Prop :=
  ∃ responses notices acceptance waits out responsesAtEnd noticesAtEnd,
    t =
      { s with
        responses := responses, notices := notices, lastAcceptance := acceptance, linkWaits := waits, linkOut := out,
        responsesAtEnd := responsesAtEnd, noticesAtEnd := noticesAtEnd }

theorem linkEnded_linkOnly {s t : State} (h : LinkOnly s t) : LinkOnly s (linkEnded t) := by
  obtain ⟨responses, notices, acceptance, waits, out, -, -, rfl⟩ := h
  exact ⟨responses, notices, acceptance, waits, out, _, _, rfl⟩

theorem readResponse_linkOnly (s : State) (entered more : Nat) : LinkOnly s (readResponse s entered more) := by
  unfold readResponse
  split
  · exact ⟨_, _, _, _, _, _, _, rfl⟩
  · exact linkEnded_linkOnly ⟨_, _, _, _, _, _, _, rfl⟩

theorem readNotice_linkOnly (s : State) (entered more : Nat) : LinkOnly s (readNotice s entered more) := by
  unfold readNotice
  split
  · exact ⟨_, _, _, _, _, _, _, rfl⟩
  · exact linkEnded_linkOnly ⟨_, _, _, _, _, _, _, rfl⟩

/-- What event `c` may make of the state `s`. -/
inductive Effect (c : Instr) (s : State) : State → Prop
  /-- the event cannot occur in `s`, or changes nothing (log 1, log 20) -/
  | nothing : Effect c s s
  | reset (asserted linkWaits : Bool) (memory : Memory) (event : isResetEvent c = true) :
      Effect c s { resetDevice s asserted linkWaits with memory := memory }
  | tick {u : State} (event : c = .tick) (first : u = s ∨ stepDue s = true ∧ u = takeDueStep .none s) :
      Effect c s (endTick u)
  | sweepStep (during : VisitEvents) (due : stepDue s = true) : Effect c s (takeDueStep during s)
  /-- a start-of-cell byte (R126) -/
  | transfer (first : Option Byte) : Effect c s { s with transfer := first }
  | cellAccepted (first : Byte) (rest : Vector Byte 63) (transfer : s.transfer = some first) :
      Effect c s
        { s with
          transfer := none
          ingress := s.ingress ++ [cellOfTransfer first rest]
          ports := { s.ports with accepted := s.ports.accepted + 1 }
          cellsInside := s.cellsInside + 1 }
  | headLeft {cell : Cell} {rest : List Cell} (working : classifying s = true) (stage : s.stage = none)
      (head : s.ingress = cell :: rest) : Effect c s (headLeft { s with ingress := rest } cell)
  | stageGranted (room : egressRoom s = true) : Effect c s (grantStage s)
  | entryGranted (n : Nat) (room : egressRoom s = true) : Effect c s (serveCell s n)
  | cellEmitted {e : EgressCell} {rest : List EgressCell} (head : s.egress = e :: rest) :
      Effect c s
        { s with
          egress := rest
          ports := s.ports.bumpEmitted e.disposition
          cellsInside := s.cellsInside - 1
          egressOut := some e.cell }
  | issued (room : s.inFlight.length < Config.flightLimit) : Effect c s (issueNext s)
  | evictionWritten {i : Fin 64} {old reserved : Nat} {copy : Record} {rest : List Txn}
      (flight : s.inFlight = .writeBack i :: rest) (line : lineAt s.lines i = .evicting old copy reserved)
      (number : old < Config.maxRecords) :
      Effect c s (evictionWritten { s with inFlight := rest } i old copy reserved)
  | restartWritten {i : Fin 64} {n requested : Nat} {copy : Record} {d f p : Bool} {rest : List Txn}
      (flight : s.inFlight = .writeBack i :: rest) (line : lineAt s.lines i = .valid n copy d f p)
      (restart : s.restart = .writingBack requested) (number : n < Config.maxRecords) :
      Effect c s (restartWritten { s with inFlight := rest } i n copy f p requested)
  | filled {n : Nat} {e : Entry} {rest : List Txn} (damage : Damage) (flight : s.inFlight = .fill n :: rest)
      (entry : findEntry s.missTable n = some e) (number : n < Config.maxRecords) :
      Effect c s (filled { s with inFlight := rest } n e.target damage)
  | sweepVisited {n : Nat} {rest : List Txn} (damage : Damage) (during : VisitEvents)
      (flight : s.inFlight = .sweepRead n :: rest) (number : n < Config.maxRecords) :
      Effect c s (sweepVisited { s with inFlight := rest } n damage during)
  | sweepWritten {n m : Nat} {copy : Record} {rest : List Txn} (during : VisitEvents)
      (flight : s.inFlight = .sweepWrite n :: rest) (hold : s.hold = .writing m copy) (number : n < Config.maxRecords) :
      Effect c s (sweepWritten { s with inFlight := rest } n copy during)
  | formatWritten {n next : Nat} {rest : List Txn} (flight : s.inFlight = .formatWrite n :: rest)
      (pass : s.pass = .format next) (number : n < Config.maxRecords) :
      Effect c s (formatWritten { s with inFlight := rest } n)
  | resumeJudged {n next : Nat} {counts : StateCounts} {writes : List (Nat × Record)} {rest : List Txn}
      (damage : Damage) (flight : s.inFlight = .resumeRead n :: rest) (pass : s.pass = .resume next counts writes)
      (number : n < Config.maxRecords) :
      Effect c s (resumeJudged { s with inFlight := rest } n next counts writes damage)
  | resumeWritten {n : Nat} {copy : Record} {rest : List Txn} (flight : s.inFlight = .resumeWrite n copy :: rest)
      (number : n < Config.maxRecords) :
      Effect c s (finishResume (writeImage { s with inFlight := rest } n copy))
  | writeBacksRequested (drained : drained s = true) : Effect c s (requestWriteBacks s)
  | restartEnded {requested : Nat} (restart : s.restart = .emptied requested) (sent : s.egress = []) :
      Effect c s (endRestart s requested)
  | linked {t : State} (link : LinkOnly s t) : Effect c s t
  | commandAccepted {t : State} (cmd : Command) (link : LinkOnly s t) : Effect c s (acceptCommand t cmd)
  /-- a command that completes at once and changes nothing else: refused, or a report -/
  | answered {cmd : Command} (o : OutcomeCode) (payload : List Byte) (engine : s.engine = .checking cmd) :
      Effect c s (answered s cmd o payload)
  | configured {cmd : Command} {p : SetupParams} (event : c = .setup) (engine : s.engine = .checking cmd)
      (device : s.device = .config) (allowed : setupAllowed s p = true) :
      Effect c s (Safety.answered { s with setup := p, sweepPos := p.capacity - 1 } cmd .ok [])
  | ruleWritten {cmd : Command} {k : Nat} {r : Rule} (hk : k < 16) (engine : s.engine = .checking cmd)
      (allowed : ruleAllowed s r = true) :
      Effect c s (Safety.answered { s with rules := s.rules.set k r hk } cmd .ok [])
  | formatBegun {cmd : Command} (engine : s.engine = .checking cmd) (device : s.device = .config) :
      Effect c s { s with device := .formatting, pass := .format 0, engine := .inOperation cmd }
  | resumeBegun {cmd : Command} (engine : s.engine = .checking cmd) (device : s.device = .config)
      (preserved : s.preserved.isSome = true) :
      Effect c s
        { s with
          device := .resuming, pass := .resume 0 ⟨0, 0, 0, 0, 0⟩ [], owedCount := 0, engine := .inOperation cmd }
  | restartBegun {cmd : Command} (engine : s.engine = .checking cmd) (device : s.device = .running) :
      Effect c s
        { s with device := .restarting, restart := .draining, remembered := false, engine := .inOperation cmd }
  | recordCommand {cmd : Command} (refusal : Option OutcomeCode) (engine : s.engine = .checking cmd) :
      Effect c s (recordCommand s cmd refusal)
  | stepRetried {cmd : Command} (engine : s.engine = .waitingForEntry cmd) :
      Effect c s (recordStep s cmd (paramRecord cmd))

namespace Effect

variable {c : Instr} {s t : State}

/-! ### The commands that name no record -/

theorem of_answer {cmd : Command} (o : OutcomeCode) (he : s.engine = .checking cmd) : Effect c s (answer s cmd o) :=
  answer_eq_answered s cmd o ▸ .answered o [] he

theorem of_complete {cmd : Command} (o : OutcomeCode) (payload : List Byte) (he : s.engine = .checking cmd) :
    Effect c s (complete s cmd o payload) :=
  complete_eq_answered s cmd o payload ▸ .answered o payload he

theorem of_setupEffect {cmd : Command} (he : s.engine = .checking cmd) : Effect .setup s (setupEffect s cmd) := by
  unfold setupEffect
  split
  · rename_i hdevice
    split
    · exact of_answer _ he
    · split
      · rename_i hallowed
        rw [answer_eq_answered]
        exact .configured rfl he hdevice hallowed
      · exact of_answer _ he
  · exact of_answer _ he

theorem of_formatEffect {cmd : Command} (he : s.engine = .checking cmd) : Effect c s (formatEffect s cmd) := by
  unfold formatEffect
  split
  · exact .formatBegun he (by assumption)
  · exact of_answer _ he

theorem of_resumeEffect {cmd : Command} (he : s.engine = .checking cmd) : Effect c s (resumeEffect s cmd) := by
  unfold resumeEffect
  split
  · rename_i h
    exact .resumeBegun he h.1 h.2
  · exact of_answer _ he

theorem of_restartEffect {cmd : Command} (he : s.engine = .checking cmd) : Effect c s (restartEffect s cmd) := by
  unfold restartEffect
  split
  · exact .restartBegun he (by assumption)
  · exact of_answer _ he

theorem of_statusEffect {cmd : Command} (he : s.engine = .checking cmd) : Effect c s (statusEffect s cmd) := by
  unfold statusEffect
  split
  · exact of_complete _ _ he
  · exact of_answer _ he

theorem of_ruleWriteEffect {cmd : Command} (he : s.engine = .checking cmd) : Effect c s (ruleWriteEffect s cmd) := by
  unfold ruleWriteEffect
  split
  · split
    · split
      · rw [answer_eq_answered]
        exact .ruleWritten _ he (by assumption)
      · exact of_answer _ he
    · exact of_answer _ he
  · exact of_answer _ he

theorem of_ruleReadEffect {cmd : Command} (he : s.engine = .checking cmd) : Effect c s (ruleReadEffect s cmd) := by
  unfold ruleReadEffect
  split
  · split
    · exact of_complete _ _ he
    · exact of_answer _ he
  · exact of_answer _ he

/-! ### The management link -/

theorem of_execCommand {tag code : Byte} {params : List Byte} {check : BitVec 16} {more : Nat}
    (h : execCommand tag code params check s more = .next t) : Effect c s t := by
  refine onLink_elim h .nothing ?_
  split
  · exact .nothing
  · dsimp only
    split
    · exact .commandAccepted _ (linkEnded_linkOnly ⟨_, _, _, _, _, _, _, rfl⟩)
    · exact .linked (linkEnded_linkOnly ⟨_, _, _, _, _, _, _, rfl⟩)

theorem of_execTransactionAbandon {what : Abandoned} (h : execTransactionAbandon what s = .next t) :
    Effect c s t := by
  cases h
  split
  · exact .nothing
  · split
    · exact .linked (linkEnded_linkOnly ⟨_, _, _, _, _, _, _, rfl⟩)
    · split
      · exact .nothing
      · exact .linked (linkEnded_linkOnly ⟨_, _, _, _, _, _, _, rfl⟩)

/-! ### The completions -/

/-- The completion of a transaction: nothing under RESET, else the record's words exist and the effect is taken. -/
theorem of_completing {u : State} {n : Nat} (h : completing n s u = .next t)
    (hu : n < Config.maxRecords → Effect c s u) : Effect c s t := by
  unfold completing at h
  split at h
  · cases h
    exact .nothing
  · split at h
    · rename_i hn
      cases h
      exact hu hn
    · cases h

theorem of_execWriteBackComplete (h : execWriteBackComplete s = .next t) : Effect c s t := by
  unfold execWriteBackComplete at h
  split at h
  · rename_i hflight
    split at h
    · rename_i hline
      exact of_completing h (.evictionWritten hflight hline)
    · rename_i hline hrestart
      exact of_completing h (.restartWritten hflight hline hrestart)
    · cases h
      exact .nothing
  · cases h
    exact .nothing

theorem of_execFillReadComplete {damage : Damage} (h : execFillReadComplete damage s = .next t) : Effect c s t := by
  unfold execFillReadComplete at h
  split at h
  · rename_i hflight
    split at h
    · rename_i hentry
      exact of_completing h (.filled damage hflight hentry)
    · cases h
      exact .nothing
  · cases h
    exact .nothing

theorem of_execSweepReadComplete {damage : Damage} {during : VisitEvents}
    (h : execSweepReadComplete damage s during = .next t) : Effect c s t := by
  unfold execSweepReadComplete at h
  split at h
  · rename_i hflight
    exact of_completing h (.sweepVisited damage during hflight)
  · cases h
    exact .nothing

theorem of_execSweepWriteComplete {during : VisitEvents} (h : execSweepWriteComplete s during = .next t) :
    Effect c s t := by
  unfold execSweepWriteComplete at h
  split at h
  · rename_i hflight hhold
    exact of_completing h (.sweepWritten during hflight hhold)
  · cases h
    exact .nothing

theorem of_execFormatWriteComplete (h : execFormatWriteComplete s = .next t) : Effect c s t := by
  unfold execFormatWriteComplete at h
  split at h
  · rename_i hflight hpass
    exact of_completing h (.formatWritten hflight hpass)
  · cases h
    exact .nothing

theorem of_execResumeReadComplete {damage : Damage} (h : execResumeReadComplete damage s = .next t) :
    Effect c s t := by
  unfold execResumeReadComplete at h
  split at h
  · rename_i hflight hpass
    exact of_completing h (.resumeJudged damage hflight hpass)
  · cases h
    exact .nothing

theorem of_execResumeWriteComplete (h : execResumeWriteComplete s = .next t) : Effect c s t := by
  unfold execResumeWriteComplete at h
  split at h
  · rename_i hflight
    exact of_completing h (.resumeWritten hflight)
  · cases h
    exact .nothing

/-- A record command's checks and record step (R138, R139). -/
theorem of_recordEvent {code : Byte} {refusal : Command → Option OutcomeCode}
    (h : onCurrent s code (fun cmd => Machine.recordCommand s cmd (refusal cmd)) = .next t) : Effect c s t :=
  onCurrent_elim h .nothing fun _ he _ => .recordCommand _ he

end Effect

/-! ### Every event -/

/-- What every event does to the state. -/
theorem exec_effect {c : Instr} {s t : State} (h : exec c s = .next t) : Effect c s t := by
  cases c with
  | powerOn low sram errors =>
    cases h
    exact .reset false low _ rfl
  | resetPinAssert words =>
    cases h
    split
    · exact .nothing
    · exact .reset true false _ rfl
  | resetPinDeassert low =>
    cases h
    split
    · exact .reset false low s.memory rfl
    · exact .nothing
  | tick =>
    refine whileRunning_elim h .nothing (.tick rfl ?_)
    split
    · exact .inr ⟨by assumption, rfl⟩
    · exact .inl rfl
  | sweepStep during =>
    refine whileRunning_elim h .nothing ?_
    split
    · exact .sweepStep during (by assumption)
    · exact .nothing
  | ingressTransferBegin first => exact whileRunning_elim h .nothing (.transfer _)
  | cellAccept rest =>
    refine whileRunning_elim h .nothing ?_
    split
    · exact .nothing
    · exact .cellAccepted _ rest (by assumption)
  | ingressHeadLeaves =>
    refine whileRunning_elim h .nothing ?_
    split
    · exact .headLeft (by assumption) (by assumption) (by assumption)
    · exact .nothing
  | egressPlaceGrant requester =>
    refine whileRunning_elim h .nothing ?_
    split
    · split
      · exact .stageGranted (by assumption)
      · exact .entryGranted _ (by assumption)
    · exact .nothing
  | cellEmit =>
    refine whileRunning_elim h .nothing ?_
    split
    · exact .nothing
    · exact .cellEmitted (by assumption)
  | memoryIssue =>
    refine whileRunning_elim h .nothing ?_
    split
    · exact .issued (by assumption)
    · exact .nothing
  | writeBackComplete => exact .of_execWriteBackComplete h
  | fillReadComplete damage => exact .of_execFillReadComplete h
  | sweepReadComplete damage during => exact .of_execSweepReadComplete h
  | sweepWriteComplete during => exact .of_execSweepWriteComplete h
  | formatWriteComplete => exact .of_execFormatWriteComplete h
  | resumeReadComplete damage => exact .of_execResumeReadComplete h
  | resumeWriteComplete => exact .of_execResumeWriteComplete h
  | restartWriteBackRequest =>
    refine whileRunning_elim h .nothing ?_
    split
    · exact .writeBacksRequested (by assumption)
    · exact .nothing
  | restartComplete =>
    refine whileRunning_elim h .nothing ?_
    split
    · exact .restartEnded (by assumption) (by assumption)
    · exact .nothing
  | command tag code params check more => exact .of_execCommand h
  | responseRead entered more => exact onLink_elim h .nothing (.linked (readResponse_linkOnly s _ _))
  | noticeRead entered more => exact onLink_elim h .nothing (.linked (readNotice_linkOnly s _ _))
  | linkStatus more =>
    exact onLink_elim h .nothing (.linked (linkEnded_linkOnly ⟨_, _, _, _, _, _, _, rfl⟩))
  | voidTransaction first more =>
    refine onLink_elim h .nothing ?_
    split
    · exact .nothing
    · exact .linked (linkEnded_linkOnly ⟨_, _, _, _, _, _, _, rfl⟩)
  | transactionAbandon what => exact .of_execTransactionAbandon h
  | setup => exact onCurrent_elim h .nothing fun _ he _ => .of_setupEffect he
  | format => exact onCurrent_elim h .nothing fun _ he _ => .of_formatEffect he
  | resume => exact onCurrent_elim h .nothing fun _ he _ => .of_resumeEffect he
  | restart => exact onCurrent_elim h .nothing fun _ he _ => .of_restartEffect he
  | status => exact onCurrent_elim h .nothing fun _ he _ => .of_statusEffect he
  | ruleWrite => exact onCurrent_elim h .nothing fun _ he _ => .of_ruleWriteEffect he
  | ruleRead => exact onCurrent_elim h .nothing fun _ he _ => .of_ruleReadEffect he
  | admitRecord => exact .of_recordEvent h
  | amend => exact .of_recordEvent h
  | hold => exact .of_recordEvent h
  | release => exact .of_recordEvent h
  | retire => exact .of_recordEvent h
  | query => exact .of_recordEvent h
  | pin => exact .of_recordEvent h
  | unpin => exact .of_recordEvent h
  | commandStepRetry =>
    refine whileRunning_elim h .nothing ?_
    split
    · exact .stepRetried (by assumption)
    · exact .nothing
  | partialCellDropped first =>
    refine whileRunning_elim h .nothing ?_
    split
    · exact .nothing
    · exact .transfer _

end Sys2Proof.Proofs

/-! SUPPORT. A place given to the classification stage (R28, R81, R129). -/

namespace Sys2Proof.Proofs

open Sys2Proof Sys2Proof.Machine Sys2Proof.Safety Sys2Proof.Laws

/-! ### An evaluation from the stage -/

/-- A cell whose record is still resident is evaluated, and the claim counts a hit (R81, R86). -/
theorem grantStage_resident {s : State} {c : Cell} {n : Nat} {i : Fin 64} {r : Record} {d f p : Bool}
    (hs : s.stage = some (.direct c n)) (h : ResidentIn s n i r d f p) :
    grantStage s = claimCell (countHit { s with stage := none }) i n r d p c := by
  obtain ⟨hstanding, hline⟩ := h
  simp [grantStage, hs, hstanding, hline]

/-- A cell whose record's standing has changed is answered as at an offer (R81). -/
theorem grantStage_moved {s : State} {c : Cell} {n : Nat} (hs : s.stage = some (.direct c n))
    (h : ∀ i, standing s n ≠ .resident i) : grantStage s = offerCell s c n := by
  unfold grantStage
  rw [hs]
  dsimp only
  split
  · rename_i i hi
    exact absurd hi (h i)
  · rfl

/-- A notice is offered to the same queue whatever the stage holds and the hits count. -/
theorem offerNotice_countHit (s : State) (r : Record) (k : OwedKind) (x : Notice) :
    offerNotice (countHit { s with stage := none }) r k x =
      (countHit { (offerNotice s r k x).1 with stage := none }, (offerNotice s r k x).2) := by
  unfold offerNotice
  have hroom : noticeRoom (countHit { s with stage := none }) = noticeRoom s := rfl
  rw [hroom]
  cases noticeRoom s <;> rfl

theorem offerJudged_countHit (s : State) (n : Nat) (j : Judged) :
    offerJudged (countHit { s with stage := none }) n j =
      (countHit { (offerJudged s n j).1 with stage := none }, (offerJudged s n j).2) := by
  unfold offerJudged
  cases j.notice with
  | none => rfl
  | some x => exact offerNotice_countHit s _ _ _

theorem settleCell_eq_settled (s : State) (c : Cell) (v : Verdict) : settleCell s c v = settled s c v := by
  cases v <;> simp [settleCell, settled, emittedBy, fillPlace, discardCell]

/-- The evaluation of the stage's cell, as one claim that counts a hit (R28, R63, R86). -/
theorem claimCell_from_stage (s : State) (i : Fin 64) (n : Nat) (r : Record) (d p : Bool) (c : Cell) :
    claimCell (countHit { s with stage := none }) i n r d p c =
      settled
        { claimed (offerJudged s n (evaluate r (cellLabel c) s.now)).1 i n
            (offerJudged s n (evaluate r (cellLabel c) s.now)).2 (d || (evaluate r (cellLabel c) s.now).touched) p with
          stage := none }
        c (evaluate r (cellLabel c) s.now).verdict := by
  have hnow : (countHit { s with stage := none }).now = s.now := rfl
  unfold claimCell
  simp only [hnow, offerJudged_countHit, settleCell_eq_settled]
  rfl

/-- Settles O21: a case for each thing the stage may hold, with the standing of a direct cell's record. -/
theorem stageGivenPlace : Obligations.StageGivenPlace := by
  unfold Obligations.StageGivenPlace
  intro s hpin
  have grant (hroom : s.egress.length < 16) : exec (.egressPlaceGrant .stage) s = .next (grantStage s) := by
    simp [exec, execEgressPlaceGrant, whileRunning, hpin, egressRoom, hroom]
  refine ⟨fun hfull who => ?_, fun hempty => ?_, fun hroom => ⟨fun c m hs => ?_, fun c n hs => ⟨?_, fun hmoved => ?_⟩⟩⟩
  · have hnone : egressRoom s = false := by simpa [egressRoom] using hfull
    simp [exec, execEgressPlaceGrant, whileRunning, hnone]
  · have hsame : grantStage s = s := by simp [grantStage, hempty]
    simp [exec, execEgressPlaceGrant, whileRunning, hsame]
  · rw [grant hroom]
    simp [grantStage, hs, fillPlace]
  · rintro i r d f p hres j rfl q rfl
    rw [grant hroom, grantStage_resident hs hres, claimCell_from_stage]
    rfl
  · rw [grant hroom, grantStage_moved hs hmoved]

end Sys2Proof.Proofs

/-! SUPPORT. The Time Base (R23): which events move the count of ticks, and which the tick period. -/

namespace Sys2Proof.Proofs

open Sys2Proof Sys2Proof.Machine Sys2Proof.Safety Sys2Proof.Laws

/-! ### Events that leave the count of ticks and the parameters alone -/

/-- The count of ticks and the SETUP parameters are as they were. -/
structure SameClock (s t : State) : Prop where
  now : t.now = s.now := by rfl
  setup : t.setup = s.setup := by rfl

namespace SameClock

theorem refl (s : State) : SameClock s s := { }

theorem trans {s t u : State} (h1 : SameClock s t) (h2 : SameClock t u) : SameClock s u :=
  ⟨h2.now.trans h1.now, h2.setup.trans h1.setup⟩

theorem of_kept {s t : State} (h : Kept s t) : SameClock s t := ⟨h.now, h.setup⟩

/-- A visit reads notices on the way, and a NOTICE-READ leaves the Time Base alone. -/
theorem of_visit {k : Nat} {s t : State} (h : KeptByVisit k s t) : SameClock s t := by
  obtain ⟨j, out, responses, notices, -, hkept⟩ := h
  exact ⟨hkept.now, hkept.setup⟩

end SameClock

theorem LinkOnly.sameClock {s t : State} (h : LinkOnly s t) : SameClock s t := by
  obtain ⟨_, _, _, _, _, _, _, rfl⟩ := h
  exact { }

theorem answered_sameClock (s : State) (c : Command) (o : OutcomeCode) (p : List Byte) :
    SameClock s (answered s c o p) := by
  unfold answered
  split <;> exact { }

theorem completeOperation_sameClock (s : State) (p : List Byte) : SameClock s (completeOperation s p) := by
  obtain ⟨c, -, h⟩ | ⟨-, h⟩ := completeOperation_eq s p <;> rw [h]
  · exact answered_sameClock _ _ _ _
  · exact .refl s

theorem takeNext_sameClock (s : State) : SameClock s (takeNext s) := by
  unfold takeNext
  split <;> exact { }

/-! ### Record memory and the device-wide operations -/

theorem issueNext_sameClock (s : State) : SameClock s (issueNext s) := by
  unfold issueNext
  repeat' split
  all_goals exact { }

theorem restartWritten_sameClock (s : State) (i : Fin 64) (n : Nat) (copy : Record) (f p : Bool) (k : Nat) :
    SameClock s (restartWritten s i n copy f p k) := by
  obtain h | ⟨h, -⟩ := restartWritten_kept s i n copy f p k <;> exact ⟨h.now, h.setup⟩

theorem formatWritten_sameClock (s : State) (n : Nat) : SameClock s (formatWritten s n) := by
  unfold formatWritten
  dsimp only
  split
  · exact SameClock.trans { } (completeOperation_sameClock _ _)
  · exact { }

theorem finishResume_sameClock (s : State) : SameClock s (finishResume s) := by
  obtain e | ⟨⟨p, e⟩, -⟩ := finishResume_cases s <;> rw [e]
  · exact .refl s
  · exact SameClock.trans { } (completeOperation_sameClock _ _)

theorem resumeJudged_sameClock (s : State) (n next : Nat) (counts : StateCounts) (writes : List (Nat × Record))
    (damage : Damage) : SameClock s (resumeJudged s n next counts writes damage) := by
  have hoffer : SameClock s
      (offerFaulted (readImage s n .resume false damage).1 n (readImage s n .resume false damage).2).1 :=
    SameClock.trans { } (.of_kept (offerFaulted_kept _ _ _))
  exact (hoffer.trans { }).trans (finishResume_sameClock _)

theorem requestWriteBacks_sameClock (s : State) : SameClock s (requestWriteBacks s) := by
  unfold requestWriteBacks
  split <;> exact { }

/-! ### Every event -/

/-- The count of ticks is as it was, and the tick period is as it was or within its bounds (R23). -/
structure PeriodSet (s t : State) : Prop where
  now : t.now = s.now
  period : t.setup = s.setup ∨ 1 ≤ t.setup.tickPeriod ∧ t.setup.tickPeriod ≤ 1000

theorem SameClock.periodSet {s t : State} (h : SameClock s t) : PeriodSet s t := ⟨h.now, .inl h.setup⟩

theorem setupAllowed_period {s : State} {p : SetupParams} (h : setupAllowed s p = true) :
    1 ≤ p.tickPeriod ∧ p.tickPeriod ≤ 1000 := by
  simp only [setupAllowed, Bool.and_eq_true, decide_eq_true_eq] at h
  tauto

/-- Every event but the resets and TICK leaves the count of ticks; SETUP alone changes the parameters (R23, R142). -/
theorem Effect.periodSet {c : Instr} {s t : State} (h : Effect c s t) (hreset : isResetEvent c = false)
    (htick : c ≠ .tick) : PeriodSet s t := by
  have same {u : State} : SameClock s u → PeriodSet s u := SameClock.periodSet
  cases h with
  | nothing => exact same (.refl s)
  | reset _ _ _ event => rw [hreset] at event; cases event
  | tick event _ => exact absurd event htick
  | sweepStep during _ => exact same (.of_visit (takeDueStep_kept during s))
  | transfer _ => exact same { }
  | cellAccepted _ _ _ => exact same { }
  | headLeft _ _ _ => exact same (.trans { } (.of_kept (headLeft_kept _ _)))
  | stageGranted _ => exact same (.of_kept (grantStage_kept s))
  | entryGranted n _ => exact same (.of_kept (serveCell_kept s n))
  | cellEmitted _ => exact same { }
  | issued _ => exact same (issueNext_sameClock s)
  | evictionWritten _ _ _ => exact same (.trans { } (.of_kept (evictionWritten_kept _ _ _ _ _)))
  | restartWritten _ _ _ _ => exact same (.trans { } (restartWritten_sameClock _ _ _ _ _ _ _))
  | filled damage _ _ _ => exact same (.trans { } (.of_kept (filled_kept _ _ _ damage)))
  | sweepVisited damage during _ _ => exact same (.trans { } (.of_visit (sweepVisited_kept _ _ damage during)))
  | sweepWritten during _ _ _ => exact same (.trans { } (.of_visit (sweepWritten_kept _ _ _ during)))
  | formatWritten _ _ _ => exact same (.trans { } (formatWritten_sameClock _ _))
  | resumeJudged damage _ _ _ => exact same (.trans { } (resumeJudged_sameClock _ _ _ _ _ damage))
  | resumeWritten _ _ => exact same (.trans { } (finishResume_sameClock _))
  | writeBacksRequested _ => exact same (requestWriteBacks_sameClock s)
  | restartEnded _ _ => exact same (.trans { } (completeOperation_sameClock _ _))
  | linked link => exact same link.sameClock
  | commandAccepted _ link => exact same (link.sameClock.trans (.trans { } (takeNext_sameClock _)))
  | answered o payload _ => exact same (answered_sameClock s _ o payload)
  | @configured cmd p _ _ _ allowed =>
    have hclock := answered_sameClock { s with setup := p, sweepPos := p.capacity - 1 } cmd .ok []
    exact ⟨hclock.now, .inr (hclock.setup ▸ setupAllowed_period allowed)⟩
  | ruleWritten _ _ _ => exact same (.trans { } (answered_sameClock _ _ .ok []))
  | formatBegun _ _ => exact same { }
  | resumeBegun _ _ _ => exact same { }
  | restartBegun _ _ => exact same { }
  | recordCommand refusal engine => exact same (.of_kept (recordCommand_kept (by rw [engine]; rfl) _ refusal))
  | stepRetried engine => exact same (.of_kept (recordStep_kept (by rw [engine]; rfl) _ _))

/-! ### TICK and the resets -/

theorem dueStep_sameClock (s : State) : SameClock s (if stepDue s then takeDueStep .none s else s) := by
  split
  · exact .of_visit (takeDueStep_kept .none s)
  · exact .refl s

/-- TICK adds one, whatever step it takes first (R23, log 4). -/
theorem exec_tick {s : State} (hpin : s.resetPin = false) : ∃ t, exec .tick s = .next t ∧ t.now = s.now + 1 :=
  ⟨endTick (if stepDue s then takeDueStep .none s else s), by simp [exec, execTick, whileRunning, hpin],
    congrArg (· + 1) (dueStep_sameClock s).now⟩

theorem exec_tick_setup {s t : State} (h : exec .tick s = .next t) : t.setup = s.setup :=
  whileRunning_elim (P := fun u => u.setup = s.setup) h rfl (dueStep_sameClock s).setup

/-- A reset event leaves the state as it was, or the count at 0 and the tick period at 1 (R172). -/
theorem exec_reset {c : Instr} {s t : State} (h : exec c s = .next t) (hreset : isResetEvent c = true) :
    t = s ∨ t.now = 0 ∧ t.setup.tickPeriod = 1 := by
  cases c with
  | powerOn low sram errors =>
    cases h
    exact .inr ⟨rfl, rfl⟩
  | resetPinAssert words =>
    cases h
    split
    · exact .inl rfl
    · exact .inr ⟨rfl, rfl⟩
  | resetPinDeassert low =>
    cases h
    split
    · exact .inr ⟨rfl, rfl⟩
    · exact .inl rfl
  | _ => cases hreset

/-- Every event keeps the tick period within 1 to 1000 (R23). -/
theorem exec_tickPeriod {c : Instr} {s t : State} (h : exec c s = .next t) (hlow : 1 ≤ s.setup.tickPeriod)
    (hhigh : s.setup.tickPeriod ≤ 1000) : 1 ≤ t.setup.tickPeriod ∧ t.setup.tickPeriod ≤ 1000 := by
  have same (hs : t.setup = s.setup) : 1 ≤ t.setup.tickPeriod ∧ t.setup.tickPeriod ≤ 1000 := hs ▸ ⟨hlow, hhigh⟩
  by_cases hreset : isResetEvent c = true
  · obtain rfl | ⟨-, hone⟩ := exec_reset h hreset
    · exact same rfl
    · omega
  by_cases htick : c = .tick
  · subst htick
    exact same (exec_tick_setup h)
  · exact ((exec_effect h).periodSet (by simpa using hreset) htick).period.elim same id

/-- Settles O5: TICK alone counts, the resets alone set the count, and SETUP alone changes the tick period. -/
theorem timeBaseCounts : Obligations.TimeBaseCounts := by
  unfold Obligations.TimeBaseCounts
  refine ⟨fun s hpin => ?_, fun c s t h hreset htick => ((exec_effect h).periodSet hreset htick).now,
    fun c s t h hlow hhigh => exec_tickPeriod h hlow hhigh, fun low sram errors s t h => ?_,
    fun words s t hpin h => ?_, fun low s t hpin h => ?_⟩
  · obtain ⟨t, ht, hnow⟩ := exec_tick hpin
    exact ⟨t, ht, hnow, fun hmax => by rw [hnow, hmax]; rfl⟩
  · cases h
    exact ⟨rfl, rfl⟩
  · simp only [exec, execResetPinAssert, hpin] at h
    cases h
    exact ⟨rfl, rfl⟩
  · simp only [exec, execResetPinDeassert, hpin] at h
    cases h
    exact ⟨rfl, rfl⟩

end Sys2Proof.Proofs

/-! SUPPORT. The budgets of the copies that the part holds (R42): what each change of a copy makes of a budget, and what
each operation makes of the copies. -/

namespace Sys2Proof.Proofs

open Sys2Proof Sys2Proof.Machine Sys2Proof.Safety Sys2Proof.Laws

/-! ### The budget of one copy -/

theorem refresh_budget_le (r : Record) (now : Tick) :
    (r.refresh now).budget.toNat ≤ (r.refresh now).depth.toNat := by
  rw [refresh_budget]
  exact Nat.min_le_left _ _

/-- A copy of an admitted record has its budget within its depth (R42). -/
def Budgeted (r : Record) : Prop := r.admitted = true → r.budget.toNat ≤ r.depth.toNat

namespace Budgeted

variable {r q : Record}

/-- A VACANT or a FAULTED record's budget has no meaning. -/
theorem of_not_admitted (h : r.admitted = false) : Budgeted r := fun ha => by rw [h] at ha; cases ha

theorem of_vacant (h : r.state = .vacant) : Budgeted r := .of_not_admitted (by simp [Record.admitted, h])

theorem of_faulted (h : r.state = .faulted) : Budgeted r := .of_not_admitted (by simp [Record.admitted, h])

/-- A copy that was admitted before, with the budget no greater and the depth as it was. -/
theorem of_le (h : Budgeted r) (ha : q.admitted = true → r.admitted = true) (hd : q.depth = r.depth)
    (hb : q.budget.toNat ≤ r.budget.toNat) : Budgeted q := fun hq => hd ▸ hb.trans (h (ha hq))

theorem owedOnly (h : Budgeted r) (ho : OwedOnly r q) : Budgeted q := by
  obtain ⟨o, rfl⟩ := ho
  exact h

theorem refresh (r : Record) (now : Tick) : Budgeted (r.refresh now) := fun _ => refresh_budget_le r now

end Budgeted

/-- The outcome of an evaluation takes one cell's cost from the budget, or leaves it (R36, R37). -/
theorem decideOutcome_budgeted {r : Record} (h : Budgeted r) (now : Tick) : Budgeted (r.decideOutcome now).1 := by
  have action (a : BitVec 2) : Budgeted (r.applyAction a).1 := by
    unfold Record.applyAction
    split <;> exact h
  unfold Record.decideOutcome
  split
  · exact action _
  split
  · exact action _
  · rename_i hs
    rw [violatesSustained_iff] at hs
    refine h.of_le id rfl ?_
    have hcost : (4096#32).toNat = 4096 := rfl
    simp only [Record.passCell]
    rw [BitVec.toNat_sub_of_le (by rw [BitVec.le_def]; omega)]
    omega

theorem judgeContract_budgeted (r : Record) (now : Tick) : Budgeted (judgeContract r now).copy := by
  have hout := decideOutcome_budgeted (.refresh r now) now
  unfold judgeContract
  dsimp only
  split <;> exact hout

theorem evaluate_budgeted {r : Record} (h : Budgeted r) (label : BitVec 24) (now : Tick) :
    Budgeted (evaluate r label now).copy := by
  unfold evaluate
  cases hs : r.state with
  | vacant => exact h
  | faulted => exact h
  | held => dsimp only; split <;> exact h
  | expired => dsimp only; split <;> exact h
  | active =>
    dsimp only
    split
    · split
      · exact h.of_le (fun _ => by simp [Record.admitted, hs]) rfl le_rfl
      · exact judgeContract_budgeted r now
    · exact h

/-! ### Visits and commands -/

theorem visitExpiry_budgeted (s : State) (n : Nat) {r : Record} (h : Budgeted r) :
    Budgeted (visitExpiry s n r).2 := by
  unfold visitExpiry
  split
  · rename_i hx
    have ha : r.admitted = true := by
      cases hs : r.state <;> simp [hs] at hx <;> simp [Record.admitted, hs]
    have hexpired : Budgeted { r with state := .expired } := h.of_le (fun _ => ha) rfl le_rfl
    exact hexpired.owedOnly (offerNotice_frame _ _ _ _).2
  · exact h

theorem visitIdle_budgeted (read : Option ReadWithin) (s : State) (n : Nat) {r : Record} (h : Budgeted r) :
    Budgeted (visitIdle read s n r).2 := by
  unfold visitIdle
  split
  · dsimp only
    split
    · split
      · exact .of_vacant rfl
      · exact h
    · have hoffered (x : Notice) : Budgeted (offerNotice (readWithin s read) r .idle x).2 :=
        h.owedOnly (offerNotice_frame _ _ _ _).2
      exact hoffered _
  · exact h

theorem visitActions_budgeted (v : VisitEvents) (s : State) (n : Nat) {r : Record} (h : Budgeted r) :
    Budgeted (visitActions v s n r).2 := by
  unfold visitActions
  split
  · exact h
  · exact h.owedOnly (moveOwed_frame _ _ _ _).2
  · exact (visitIdle_budgeted _ _ _ (visitExpiry_budgeted _ _ (.refresh r s.now))).owedOnly (moveOwed_frame _ _ _ _).2

/-- An AMEND that lowers the depth lowers the budget to it (R150). -/
theorem amendedRecord_budgeted (r : Record) (x : Selections) (b : Block) (now : Tick) :
    Budgeted (amendedRecord r x b now) := fun _ => by
  have hfresh := refresh_budget_le r now
  simp only [amendedRecord, amendField]
  by_cases hx : selects x.depth = true
  · simp only [hx, Bool.true_and, if_true, decide_eq_true_eq]
    split
    · exact le_rfl
    · omega
  · simpa [hx] using hfresh

theorem withState_budgeted {m : Met} (h : Budgeted m.copy) (ha : m.copy.admitted = true) (s : State) (st : RecState) :
    Budgeted (m.withState s st).copy := h.of_le (fun _ => ha) rfl le_rfl

theorem claimQuery_budgeted {m : Met} (h : Budgeted m.copy) (s : State) (c : Command) :
    Budgeted (claimQuery s m c).copy := by
  have hread : Budgeted (if m.copy.admitted then m.copy.refresh s.now else m.copy) := by
    split
    · exact .refresh _ _
    · exact h
  unfold claimQuery
  dsimp only
  generalize (if m.copy.admitted then m.copy.refresh s.now else m.copy) = r at *
  split <;> exact hread

theorem claimOf_budgeted {m : Met} (h : Budgeted m.copy) (s : State) (c : Command) :
    Budgeted (claimOf s m c).copy := by
  have same (o : OutcomeCode) : Budgeted (m.unchanged s o).copy := h
  unfold claimOf
  split
  · unfold claimAdmit
    repeat' split
    all_goals first | exact same _ | exact fun _ => le_rfl
  split
  · unfold claimAmend
    repeat' split
    all_goals first | exact same _ | exact amendedRecord_budgeted _ _ _ _
  split
  · unfold claimHold
    repeat' split
    case h_1 hs => exact withState_budgeted h (by simp [Record.admitted, hs]) s _
    all_goals exact same _
  split
  · unfold claimRelease
    repeat' split
    case h_2 hs => exact withState_budgeted h (by simp [Record.admitted, hs]) s _
    all_goals exact same _
  split
  · unfold claimRetire
    repeat' split
    all_goals first | exact same _ | exact .of_vacant rfl
  split
  · exact claimQuery_budgeted h s c
  split
  · unfold claimPin
    repeat' split
    all_goals exact h
  split
  · unfold claimUnpin
    repeat' split
    all_goals exact h
  · exact same _

/-! ### Reads -/

/-- A read whose fields lie within their ranges has the budget within the depth (R92). -/
theorem budgeted_of_inRange {r : Record} (h : r.outOfRange = false) : Budgeted r := fun _ => by
  simp only [Record.outOfRange, Bool.or_eq_false_iff, decide_eq_false_iff_not] at h
  obtain ⟨⟨⟨⟨⟨-, hbudget⟩, -⟩, -⟩, -⟩, -⟩ := h
  omega

theorem formCopy_budgeted (source : FaultSource) (vacant : Bool) (use : Nat) (checks : List WordCheck) :
    Budgeted (formCopy source vacant use checks).copy := by
  unfold formCopy
  dsimp only
  split
  · exact .of_vacant rfl
  split
  · exact .of_faulted rfl
  split
  · exact .of_vacant rfl
  split
  · exact .of_faulted rfl
  · rename_i hrange
    simp only [Bool.or_eq_true, not_or, Bool.not_eq_true] at hrange
    exact budgeted_of_inRange hrange.2

/-- The copy of a read, once the FAULTED notice has been offered (R94). -/
theorem offerFaulted_budgeted (s t : State) (n : Nat) (source : FaultSource) (vacant : Bool) (damage : Damage) :
    Budgeted (offerFaulted t n (readImage s n source vacant damage).2).2 :=
  Budgeted.owedOnly (formCopy_budgeted source vacant s.freeIndex _) (offerFaulted_frame _ _ _).2

/-! ### The copies that the part holds, place by place -/

/-- Every copy that the part holds has its budget within its depth, place by place. -/
structure CopiesBudgeted (s : State) : Prop where
  lines : ∀ i, ∀ r ∈ lineCopies (lineAt s.lines i), Budgeted r
  hold : ∀ r ∈ holdCopies s.hold, Budgeted r
  pass : ∀ r ∈ passCopies s.pass, Budgeted r
  flight : ∀ x ∈ s.inFlight, ∀ r ∈ flightCopies x, Budgeted r

theorem exists_mem_lines (ls : Vector Line 64) (P : Line → Prop) : (∃ l ∈ ls.toList, P l) ↔ ∃ i, P (lineAt ls i) := by
  constructor
  · rintro ⟨l, hl, hP⟩
    obtain ⟨i, hi, rfl⟩ := List.getElem_of_mem hl
    exact ⟨⟨i, by simpa using hi⟩, by simpa [lineAt] using hP⟩
  · rintro ⟨i, hP⟩
    exact ⟨_, by simp [lineAt], hP⟩

theorem mem_copiesHeld {s : State} {r : Record} :
    r ∈ copiesHeld s ↔ (∃ i, r ∈ lineCopies (lineAt s.lines i)) ∨ r ∈ holdCopies s.hold ∨ r ∈ passCopies s.pass ∨
      ∃ x ∈ s.inFlight, r ∈ flightCopies x := by
  simp only [copiesHeld, List.mem_append, List.mem_flatMap, exists_mem_lines, or_assoc]

theorem copiesBudgeted_iff (s : State) : CopiesBudgeted s ↔ BudgetsWithinDepth s := by
  constructor
  · intro h r hr
    rcases mem_copiesHeld.1 hr with ⟨i, hi⟩ | hr | hr | ⟨x, hx, hr⟩
    · exact h.lines i r hi
    · exact h.hold r hr
    · exact h.pass r hr
    · exact h.flight x hx r hr
  · intro h
    exact ⟨fun i r hr => h r (mem_copiesHeld.2 (.inl ⟨i, hr⟩)), fun r hr => h r (mem_copiesHeld.2 (.inr (.inl hr))),
      fun r hr => h r (mem_copiesHeld.2 (.inr (.inr (.inl hr)))),
      fun x hx r hr => h r (mem_copiesHeld.2 (.inr (.inr (.inr ⟨x, hx, hr⟩))))⟩

namespace CopiesBudgeted

variable {s t : State}

/-- The copies are as they were. -/
theorem same (h : CopiesBudgeted s) (hl : t.lines = s.lines := by rfl) (hh : t.hold = s.hold := by rfl)
    (hp : t.pass = s.pass := by rfl) (hf : t.inFlight = s.inFlight := by rfl) : CopiesBudgeted t :=
  ⟨hl ▸ h.lines, hh ▸ h.hold, hp ▸ h.pass, hf ▸ h.flight⟩

theorem quiet (h : CopiesBudgeted s) (hq : Quiet s t) : CopiesBudgeted t :=
  h.same hq.lines hq.hold hq.pass hq.inFlight

theorem visit {k : Nat} (h : CopiesBudgeted s) (hv : VisitOnly k s t) : CopiesBudgeted t := by
  obtain ⟨j, new, out, responses, notices, occupancy, owed, -, rfl⟩ := hv
  exact h.same

theorem linked (h : CopiesBudgeted s) (hl : LinkOnly s t) : CopiesBudgeted t := by
  obtain ⟨_, _, _, _, _, _, _, rfl⟩ := hl
  exact h.same

theorem setLine (h : CopiesBudgeted s) {l : Line} (hl : ∀ r ∈ lineCopies l, Budgeted r) (i : Fin 64) :
    CopiesBudgeted (s.setLine i l) := by
  refine ⟨fun j r hr => ?_, h.hold, h.pass, h.flight⟩
  have hline : lineAt (s.setLine i l).lines j = if j = i then l else lineAt s.lines j := lineAt_set _ _ _ _
  rw [hline] at hr
  split at hr
  · exact hl r hr
  · exact h.lines j r hr

theorem setValid (h : CopiesBudgeted s) {q : Record} (hq : Budgeted q) (i : Fin 64) (n : Nat) (d f p : Bool) :
    CopiesBudgeted (s.setLine i (.valid n q d f p)) :=
  h.setLine (fun r hr => by rw [List.mem_singleton.1 hr]; exact hq) i

theorem of_valid (h : CopiesBudgeted s) {i : Fin 64} {n : Nat} {r : Record} {d f p : Bool}
    (hl : lineAt s.lines i = .valid n r d f p) : Budgeted r := h.lines i r (by simp [hl, lineCopies])

/-! ### Claims and waiters -/

theorem claimCell (h : CopiesBudgeted s) {r : Record} (hr : Budgeted r) (i : Fin 64) (n : Nat) (d p : Bool) (c : Cell) :
    CopiesBudgeted (claimCell s i n r d p c) := by
  obtain ⟨hstate, hcopy⟩ := offerJudged_frame s n (evaluate r (cellLabel c) s.now)
  have hoffered := (evaluate_budgeted hr (cellLabel c) s.now).owedOnly hcopy
  exact ((h.visit hstate.visit).setValid hoffered i n _ _ _).quiet (settleCell_quiet _ _ _)

theorem claimCommand (h : CopiesBudgeted s) {m : Met} (hm : Budgeted m.copy) (i : Fin 64) (d : Bool) (c : Command) :
    CopiesBudgeted (claimCommand s i m d c) := by
  rw [claimCommand_eq]
  exact ((h.visit (claimOf_frame s m c).visit).setValid (claimOf_budgeted hm s c) i m.number _ _ _).quiet
    (answered_quiet _ _ _ _)

theorem serveCommand (h : CopiesBudgeted s) (n : Nat) : CopiesBudgeted (serveCommand s n) := by
  unfold Machine.serveCommand
  split
  · exact h
  · split
    · rename_i hl _
      exact (h.same (t := { s with missTable := _ })).claimCommand (h.of_valid hl) _ _ _
    · exact h

theorem serveCell (h : CopiesBudgeted s) (n : Nat) : CopiesBudgeted (serveCell s n) := by
  unfold Machine.serveCell
  split
  · exact h
  · split
    · rename_i hl
      exact ((h.same (t := { s with missTable := _ })).claimCell (h.of_valid hl) _ _ _ _ _).serveCommand n
    · exact h

/-- Opening an entry leaves every copy in its line, but for a clean victim's (R67). -/
theorem tryOpen (h : CopiesBudgeted s) {n : Nat} {w : Waiter} (ho : tryOpen s n w = some t) : CopiesBudgeted t := by
  obtain ⟨v, hopened⟩ := openedFrom_of_openEntry (tryOpen_eq ho).2
  have htarget : ∀ r ∈ lineCopies (lineAt t.lines v.target), Budgeted r := fun r hr => by
    rw [hopened.lines] at hr
    obtain ⟨-, h2⟩ | ⟨old, q, d, f, h1, -, ⟨-, h2⟩ | ⟨-, h2⟩⟩ := selectVictim_line hopened.victim <;> rw [h2] at hr
    · cases hr
    · rw [List.mem_singleton.1 hr]
      exact h.of_valid h1
    · cases hr
  refine ⟨fun i r hr => ?_, hopened.hold ▸ h.hold, hopened.pass ▸ h.pass, hopened.inFlight ▸ h.flight⟩
  by_cases hi : i = v.target
  · exact htarget r (hi ▸ hr)
  · obtain ⟨-, -, hothers⟩ := selectVictim_some hopened.victim
    rw [hopened.lines] at hr
    refine h.lines i r ?_
    rcases hothers i hi with e | e <;> rw [e] at hr
    · exact hr
    · cases hl : lineAt s.lines i <;> rw [hl] at hr <;> exact hr

/-! ### The answers to requesters -/

theorem overflowCell (h : CopiesBudgeted s) (c : Cell) (n : Nat) : CopiesBudgeted (overflowCell s c n) := by
  unfold Machine.overflowCell
  split <;> exact h.same

theorem offerCell (h : CopiesBudgeted s) (c : Cell) (n : Nat) : CopiesBudgeted (offerCell s c n) := by
  unfold Machine.offerCell
  split
  · split <;> exact h.same
  · exact h.same
  · split
    · split
      · rename_i ho
        exact (h.tryOpen ho).same
      · exact h.overflowCell c n
    · exact h.overflowCell c n

theorem recordStep (h : CopiesBudgeted s) (c : Command) (n : Nat) : CopiesBudgeted (recordStep s c n) := by
  unfold Machine.recordStep
  split
  · exact h.same
  · split
    · rename_i hl
      exact (h.same (t := countHit s)).claimCommand (h.of_valid hl) _ _ _
    · exact h
  · split
    · rename_i ho
      exact (h.tryOpen ho).same
    · exact h.same

theorem recordCommand (h : CopiesBudgeted s) (c : Command) (o : Option OutcomeCode) :
    CopiesBudgeted (recordCommand s c o) := by
  unfold Machine.recordCommand
  split
  · split
    · split
      · exact h.quiet (answer_quiet _ _ _)
      · exact h.recordStep _ _
    · exact h.quiet (answer_quiet _ _ _)
  · exact h.quiet (answer_quiet _ _ _)

theorem headLeft (h : CopiesBudgeted s) (c : Cell) : CopiesBudgeted (headLeft s c) := by
  have unadmitted (x : Discard) (n : Option Nat) : CopiesBudgeted (unadmittedCell s c x n) := by
    unfold unadmittedCell
    split <;> exact h.same
  unfold Machine.headLeft
  split
  · unfold classifyCell
    split
    · exact unadmitted _ _
    · split
      · exact h.offerCell _ _
      · exact unadmitted _ _
  · exact h.same

theorem grantStage (h : CopiesBudgeted s) : CopiesBudgeted (grantStage s) := by
  unfold Machine.grantStage
  split
  · exact h
  · exact h.same
  · split
    · split
      · rename_i hl
        exact (h.same (t := countHit { s with stage := none })).claimCell (h.of_valid hl) _ _ _ _ _
      · exact h
    · exact h.offerCell _ _

/-! ### Sweep steps -/

theorem claimsWithin (h : CopiesBudgeted s) (k : Nat) : CopiesBudgeted (claimsWithin k s) := by
  have engine {u : State} (hu : CopiesBudgeted u) : CopiesBudgeted (engineClaim u) := by
    unfold engineClaim
    split
    · exact hu
    · unfold engineStep
      split
      · split
        · exact hu.recordCommand _ _
        · exact hu
      · exact hu.recordStep _ _
      · exact hu
  induction k generalizing s with
  | zero => exact h
  | succ k ih => exact ih (engine h)

theorem visitLine (h : CopiesBudgeted s) (v : VisitEvents) (i : Fin 64) : CopiesBudgeted (visitLine v s i) := by
  unfold Machine.visitLine
  split
  · rename_i hl
    exact (h.visit (visitActions_frame v s _ _)).setValid (visitActions_budgeted v s _ (h.of_valid hl)) _ _ _ _ _
  · exact h

theorem beginVisit (h : CopiesBudgeted s) (v : VisitEvents) : CopiesBudgeted (beginVisit v s) := by
  unfold Machine.beginVisit
  split
  · exact h
  · rename_i n _
    have hpos : CopiesBudgeted { s with sweepPos := n } := h.same
    dsimp only
    split
    · exact hpos
    · exact (hpos.claimsWithin _).visitLine v _
    · exact hpos
    · exact hpos
    · exact ⟨h.lines, fun r hr => (by cases hr), h.pass, h.flight⟩

theorem takeDueStep (h : CopiesBudgeted s) (v : VisitEvents) : CopiesBudgeted (takeDueStep v s) := by
  unfold Machine.takeDueStep takeSweepStep
  split
  · exact h.same
  · exact (h.same (t := { s with interval := 0 })).beginVisit v

/-! ### The memory path and the device-wide operations -/

theorem rest (h : CopiesBudgeted s) {x : Txn} {rest : List Txn} (hf : s.inFlight = x :: rest) :
    CopiesBudgeted { s with inFlight := rest } :=
  ⟨h.lines, h.hold, h.pass, fun y hy => h.flight y (by rw [hf]; exact List.mem_cons_of_mem _ hy)⟩

theorem fly (h : CopiesBudgeted s) {x : Txn} (hx : ∀ r ∈ flightCopies x, Budgeted r) : CopiesBudgeted (fly s x) := by
  refine ⟨h.lines, h.hold, h.pass, fun y hy => ?_⟩
  rcases List.mem_append.1 hy with hy | hy
  · exact h.flight y hy
  · exact List.mem_singleton.1 hy ▸ hx

/-- A pass's repair goes in flight with its copy; every other request holds none (R83, R100). -/
theorem issueNext (h : CopiesBudgeted s) : CopiesBudgeted (issueNext s) := by
  have nothing {u : State} {x : Txn} (hu : CopiesBudgeted u) (hx : flightCopies x = []) :
      CopiesBudgeted (Machine.fly u x) := hu.fly fun r hr => by rw [hx] at hr; cases hr
  have hpass := h.pass
  unfold Machine.issueNext
  split
  · split
    · exact nothing ⟨h.lines, h.hold, fun r hr => (by cases hr), h.flight⟩ rfl
    · exact h
  · rename_i hp
    rw [hp] at hpass
    simp only [passCopies, List.map_cons, List.mem_cons, forall_eq_or_imp] at hpass
    obtain ⟨hcopy, hwrites⟩ := hpass
    refine fly (s := { s with pass := .resume _ _ _ }) ⟨h.lines, h.hold, hwrites, h.flight⟩ fun r hr => ?_
    exact List.mem_singleton.1 hr ▸ hcopy
  · split
    · exact nothing ⟨h.lines, h.hold, fun r hr => (by cases hr), h.flight⟩ rfl
    · exact h
  · split
    · rename_i q _ _
      exact nothing (u := { s with cacheQ := _ }) h.same (by cases q <;> rfl)
    · split
      · rename_i q _
        exact nothing (u := { s with sweepReq := none }) h.same (by cases q <;> rfl)
      · exact h

theorem emptyLines (h : CopiesBudgeted s) (k : Nat) : CopiesBudgeted (emptyLines s k) := by
  refine ⟨fun i r hr => ?_, h.hold, h.pass, h.flight⟩
  have hempty : lineAt (Machine.emptyLines s k).lines i = .empty := lineAt_replicate i
  rw [hempty] at hr
  cases hr

theorem evictionWritten (h : CopiesBudgeted s) (i : Fin 64) (old : Nat) (copy : Record) (reserved : Nat) :
    CopiesBudgeted (evictionWritten s i old copy reserved) := by
  obtain ⟨himage, hlines, hhold, hflight⟩ := evictionWritten_image s i old copy reserved
  have hfilling := h.setLine (l := .filling reserved) (fun r hr => by cases hr) i
  exact hfilling.same hlines hhold himage.pass hflight

theorem restartWritten (h : CopiesBudgeted s) {copy : Record} (hc : Budgeted copy) (i : Fin 64) (n : Nat) (f p : Bool)
    (k : Nat) : CopiesBudgeted (restartWritten s i n copy f p k) := by
  have hwritten := (h.same (t := countWriteBack (writeImage s n copy))).setValid hc i n false f p
  unfold Machine.restartWritten
  dsimp only
  split
  · exact hwritten.emptyLines k
  · exact hwritten

/-- A read completes, and its FAULTED notice has been offered; the copy formed is not yet put anywhere (R94). -/
theorem offerFaulted (h : CopiesBudgeted s) (n : Nat) (source : FaultSource) (vacant : Bool) (damage : Damage) :
    CopiesBudgeted
      (offerFaulted (readImage s n source vacant damage).1 n (readImage s n source vacant damage).2).1 :=
  (h.same (t := (readImage s n source vacant damage).1)).visit (offerFaulted_frame _ _ _).1.visit

theorem filled (h : CopiesBudgeted s) (n : Nat) (i : Fin 64) (damage : Damage) :
    CopiesBudgeted (filled s n i damage) := by
  have hline := (h.offerFaulted n .fill (!occupied s n) damage).setValid
    (offerFaulted_budgeted s (readImage s n .fill (!occupied s n) damage).1 n .fill (!occupied s n) damage) i n
    (readImage s n .fill (!occupied s n) damage).2.dirty false false
  exact (hline.same (t := landed s n i damage)).serveCommand n

theorem sweepVisited (h : CopiesBudgeted s) (n : Nat) (damage : Damage) (v : VisitEvents) :
    CopiesBudgeted (sweepVisited s n damage v) := by
  have hread := h.offerFaulted n .sweep false damage
  have hcopy := offerFaulted_budgeted s (readImage s n .sweep false damage).1 n .sweep false damage
  unfold Machine.sweepVisited
  dsimp only
  generalize Machine.offerFaulted (readImage s n .sweep false damage).1 n (readImage s n .sweep false damage).2 =
    offer at *
  have hvisit := hread.visit (visitActions_frame v offer.1 n offer.2)
  refine ⟨hvisit.lines, fun r hr => ?_, hvisit.pass, hvisit.flight⟩
  rw [List.mem_singleton.1 hr]
  exact visitActions_budgeted v offer.1 n hcopy

theorem sweepWritten (h : CopiesBudgeted s) (n : Nat) (copy : Record) (v : VisitEvents) :
    CopiesBudgeted (sweepWritten s n copy v) := by
  have hreleased : CopiesBudgeted (released s n copy) := ⟨h.lines, fun r hr => (by cases hr), h.pass, h.flight⟩
  rw [sweepWritten_eq]
  split
  · exact (hreleased.same (t := { released s n copy with remembered := false })).beginVisit v
  · exact hreleased

/-- A pass that has ended holds no repair any more (R98, R100). -/
theorem enterRunning (h : CopiesBudgeted s) : CopiesBudgeted (enterRunning s) :=
  ⟨h.lines, h.hold, fun r hr => (by cases hr), h.flight⟩

theorem formatWritten (h : CopiesBudgeted s) (n : Nat) : CopiesBudgeted (formatWritten s n) := by
  have hwritten : CopiesBudgeted (writeImage s n Record.blank) := h.same
  unfold Machine.formatWritten
  dsimp only
  split
  · exact (hwritten.same (t := { writeImage s n Record.blank with occupancy := [], owedCount := 0 })).enterRunning.quiet
      (completeOperation_quiet _ _)
  · exact hwritten

theorem finishResume (h : CopiesBudgeted s) : CopiesBudgeted (finishResume s) := by
  obtain e | ⟨⟨p, e⟩, -⟩ := finishResume_cases s <;> rw [e]
  · exact h
  · exact h.enterRunning.quiet (completeOperation_quiet _ _)

/-- A repair write that a RESUME read asks for holds the copy formed (R100). -/
theorem resumeJudged (h : CopiesBudgeted s) {next : Nat} {counts : StateCounts} {writes : List (Nat × Record)}
    (hp : s.pass = .resume next counts writes) (n : Nat) (damage : Damage) :
    CopiesBudgeted (resumeJudged s n next counts writes damage) := by
  have hread := h.offerFaulted n .resume false damage
  have hcopy := offerFaulted_budgeted s (readImage s n .resume false damage).1 n .resume false damage
  have hpass := h.pass
  rw [hp] at hpass
  unfold Machine.resumeJudged
  refine finishResume ⟨hread.lines, hread.hold, fun r hr => ?_, hread.flight⟩
  simp only [passCopies, List.map_append, List.mem_append] at hr
  rcases hr with hr | hr
  · exact hpass r hr
  · split at hr
    · rw [List.mem_singleton.1 hr]
      exact hcopy
    · cases hr

theorem requestWriteBacks (h : CopiesBudgeted s) : CopiesBudgeted (requestWriteBacks s) := by
  unfold Machine.requestWriteBacks
  split
  · exact h.emptyLines 0
  · exact h.same

theorem endRestart (h : CopiesBudgeted s) (k : Nat) : CopiesBudgeted (endRestart s k) := by
  unfold Machine.endRestart
  exact CopiesBudgeted.quiet h.same (completeOperation_quiet _ _)

/-- At reset no copy is held (R172). -/
theorem resetDevice (s : State) (asserted linkWaits : Bool) (m : Memory) :
    CopiesBudgeted { resetDevice s asserted linkWaits with memory := m } := by
  refine ⟨fun i r hr => ?_, fun r hr => (by cases hr), fun r hr => (by cases hr), fun x hx => (by cases hx)⟩
  have hempty : lineAt (Machine.resetDevice s asserted linkWaits).lines i = .empty := lineAt_replicate i
  rw [hempty] at hr
  cases hr

/-! ### Every event -/

/-- Every event keeps the budgets within their depths (R42). -/
theorem effect {c : Instr} (hs : CopiesBudgeted s) (h : Effect c s t) : CopiesBudgeted t := by
  cases h with
  | nothing => exact hs
  | reset asserted linkWaits memory _ => exact resetDevice s asserted linkWaits memory
  | tick _ first =>
    rcases first with rfl | ⟨-, rfl⟩
    · exact hs.same
    · exact (hs.takeDueStep .none).same
  | sweepStep during _ => exact hs.takeDueStep during
  | transfer _ => exact hs.same
  | cellAccepted _ _ _ => exact hs.same
  | headLeft _ _ _ => exact headLeft hs.same _
  | stageGranted _ => exact hs.grantStage
  | entryGranted n _ => exact hs.serveCell n
  | cellEmitted _ => exact hs.same
  | issued _ => exact hs.issueNext
  | evictionWritten flight _ _ => exact (hs.rest flight).evictionWritten _ _ _ _
  | restartWritten flight line _ _ => exact (hs.rest flight).restartWritten (hs.of_valid line) _ _ _ _ _
  | filled damage flight _ _ => exact (hs.rest flight).filled _ _ damage
  | sweepVisited damage during flight _ => exact (hs.rest flight).sweepVisited _ damage during
  | sweepWritten during flight _ _ => exact (hs.rest flight).sweepWritten _ _ during
  | formatWritten flight _ _ => exact (hs.rest flight).formatWritten _
  | resumeJudged damage flight pass _ => exact (hs.rest flight).resumeJudged pass _ damage
  | resumeWritten flight _ => exact finishResume (hs.rest flight).same
  | writeBacksRequested _ => exact hs.requestWriteBacks
  | restartEnded _ _ => exact hs.endRestart _
  | linked link => exact hs.linked link
  | commandAccepted _ link => exact quiet (hs.linked link).same (takeNext_quiet _)
  | answered o payload _ => exact hs.quiet (answered_quiet s _ o payload)
  | configured _ _ _ _ => exact quiet hs.same (answered_quiet _ _ .ok [])
  | ruleWritten _ _ _ => exact quiet hs.same (answered_quiet _ _ .ok [])
  | formatBegun _ _ => exact ⟨hs.lines, hs.hold, fun r hr => (by cases hr), hs.flight⟩
  | resumeBegun _ _ _ => exact ⟨hs.lines, hs.hold, fun r hr => (by cases hr), hs.flight⟩
  | restartBegun _ _ => exact hs.same
  | recordCommand refusal _ => exact hs.recordCommand _ refusal
  | stepRetried _ => exact hs.recordStep _ _

end CopiesBudgeted

/-- Settles O58: a copy comes from a read that checks its budget, and every change of a copy caps the budget at the
depth or takes from it. -/
theorem budgetsStayWithinDepth : Obligations.BudgetsStayWithinDepth := by
  unfold Obligations.BudgetsStayWithinDepth
  intro s t hs hstep
  rw [← copiesBudgeted_iff] at hs ⊢
  unfold step at hstep
  split at hstep
  · cases hstep
    exact hs
  · exact CopiesBudgeted.effect hs.same (exec_effect hstep)

end Sys2Proof.Proofs

/-! SUPPORT. The Label Map (R48 to R53): what one rule makes of a label, which rule gives a label its number, and what
becomes of a cell that leaves the Ingress FIFO. -/

namespace Sys2Proof.Proofs

open Sys2Proof Sys2Proof.Machine Sys2Proof.Safety Sys2Proof.Laws

/-! ### One rule and one label -/

theorem ruleMatches_iff (r : Rule) (label : BitVec 24) :
    r.matches label = true ↔
      r.enable = true ∧ ∀ j, r.maskLabel.getLsbD j = true → label.getLsbD j = r.matchLabel.getLsbD j := by
  unfold Rule.matches
  rw [Bool.and_eq_true, beq_iff_eq]
  refine and_congr_right fun _ => ⟨fun hmasked j hj => ?_, fun hagree => BitVec.eq_of_getLsbD_eq fun j _ => ?_⟩
  · have hbit := congrArg (fun v => v.getLsbD j) hmasked
    simpa [hj] using hbit
  · rw [BitVec.getLsbD_and, BitVec.getLsbD_and]
    cases hj : r.maskLabel.getLsbD j with
    | false => simp
    | true => rw [hagree j hj]

theorem ruleIndex_testBit (r : Rule) (label : BitVec 24) (j : Nat) :
    (r.index label).testBit j = (decide (j < r.fieldWidth) && label.getLsbD (r.fieldPosition + j)) := by
  rw [Rule.index, Nat.testBit_mod_two_pow, Nat.testBit_div_two_pow, BitVec.testBit_toNat, Nat.add_comm]

/-- The index is the one number of the field's width whose bits are the label's from the field position on (R49). -/
theorem eq_ruleIndex_iff (r : Rule) (label : BitVec 24) (index : Nat) :
    index = r.index label ↔
      index < 2 ^ r.fieldWidth ∧
        ∀ j, j < r.fieldWidth → index.testBit j = label.getLsbD (r.fieldPosition + j) := by
  constructor
  · rintro rfl
    exact ⟨Nat.mod_lt _ (Nat.two_pow_pos _), fun j hj => by simp [ruleIndex_testBit, hj]⟩
  · rintro ⟨hlt, hbits⟩
    refine Nat.eq_of_testBit_eq fun j => ?_
    rw [ruleIndex_testBit]
    by_cases hj : j < r.fieldWidth
    · simp [hj, hbits j hj]
    · have hwide : index < 2 ^ j := hlt.trans_le (Nat.pow_le_pow_right (by decide) (Nat.le_of_not_lt hj))
      simp [hj, Nat.testBit_lt_two_pow hwide]

theorem ruleMaps_eq_some_iff (r : Rule) (label : BitVec 24) (n : Nat) :
    r.maps label = some n ↔
      r.matches label = true ∧ r.index label < r.rangeLength ∧ n = r.recordBase + r.index label := by
  rw [Rule.maps, Option.ite_none_right_eq_some, Bool.and_eq_true, decide_eq_true_eq, Option.some_inj, and_assoc,
    eq_comm (a := n)]

/-- A rule maps a label to a number, in the words of R48 and R49. -/
theorem ruleMaps_iff (r : Rule) (label : BitVec 24) (n : Nat) :
    r.maps label = some n ↔
      r.enable = true ∧ (∀ j, r.maskLabel.getLsbD j = true → label.getLsbD j = r.matchLabel.getLsbD j) ∧
        ∃ index, index < r.rangeLength ∧ n = r.recordBase + index ∧ index < 2 ^ r.fieldWidth ∧
          ∀ j, j < r.fieldWidth → index.testBit j = label.getLsbD (r.fieldPosition + j) := by
  rw [ruleMaps_eq_some_iff, ruleMatches_iff, and_assoc]
  refine and_congr_right fun _ => and_congr_right fun _ => ⟨fun ⟨hlt, hn⟩ => ?_, ?_⟩
  · exact ⟨_, hlt, hn, (eq_ruleIndex_iff r label _).1 rfl⟩
  · rintro ⟨index, hlt, hn, hbits⟩
    obtain rfl := (eq_ruleIndex_iff r label index).2 hbits
    exact ⟨hlt, hn⟩

/-! ### The first rule that maps -/

theorem findSome?_eq_some_iff_getElem {α β : Type} (f : α → Option β) (l : List α) (b : β) :
    l.findSome? f = some b ↔
      ∃ k, ∃ h : k < l.length, f l[k] = some b ∧ ∀ j (hj : j < k), f l[j] = none := by
  rw [List.findSome?_eq_some_iff]
  constructor
  · rintro ⟨before, a, after, rfl, ha, hnone⟩
    refine ⟨before.length, by simp, by simpa using ha, fun j hj => ?_⟩
    rw [List.getElem_append_left hj]
    exact hnone _ (List.getElem_mem hj)
  · rintro ⟨k, hk, ha, hnone⟩
    refine ⟨l.take k, l[k], l.drop (k + 1), by simp, ha, fun x hx => ?_⟩
    obtain ⟨j, hj, rfl⟩ := List.mem_take_iff_getElem.1 hx
    exact hnone j (by omega)

/-- Rule `k` gives a label its number where it is the first that maps the label (R50). -/
theorem mapLabel_eq_some_iff (rules : Vector Rule 16) (label : BitVec 24) (n : Nat) :
    mapLabel rules label = some n ↔
      ∃ k : Fin 16, rules[k].maps label = some n ∧ ∀ j : Fin 16, j < k → rules[j].maps label = none := by
  unfold mapLabel
  rw [findSome?_eq_some_iff_getElem]
  constructor
  · rintro ⟨k, hk, hmaps, hnone⟩
    exact ⟨⟨k, by simpa using hk⟩, by simpa using hmaps, fun j hj => by simpa using hnone j.val hj⟩
  · rintro ⟨k, hmaps, hnone⟩
    refine ⟨k.val, by simp, by simpa using hmaps, fun j hj => ?_⟩
    simpa using hnone ⟨j, hj.trans k.isLt⟩ hj

/-- Settles O12: the first rule that maps the label (R50), each rule read bit by bit (R48, R49). -/
theorem labelMapLookup : Obligations.LabelMapLookup := by
  unfold Obligations.LabelMapLookup
  intro rules label maps n
  have hmaps (r : Rule) (m : Nat) : maps r m ↔ r.maps label = some m := (ruleMaps_iff r label m).symm
  simp only [mapLabel_eq_some_iff, hmaps, Option.eq_none_iff_forall_ne_some]

/-! ### A cell that leaves the Ingress FIFO -/

theorem exec_ingressHeadLeaves {s : State} {c : Cell} {rest : List Cell} (hpin : s.resetPin = false)
    (hdevice : s.device = .running ∨ s.device = .restarting) (hstage : s.stage = none) (hhead : s.ingress = c :: rest) :
    exec .ingressHeadLeaves s = .next (headLeft { s with ingress := rest } c) := by
  have hworks : classifying s = true := by simpa [classifying] using hdevice
  simp [exec, execIngressHeadLeaves, whileRunning, hpin, hworks, hstage, hhead]

theorem headLeft_bad {c : Cell} (h : headerCrc c ≠ cellCheck c) (s : State) : headLeft s c = discardCell s .header := by
  simp [headLeft, headerGood, h]

theorem headLeft_good {c : Cell} (h : headerCrc c = cellCheck c) (s : State) : headLeft s c = classifyCell s c := by
  simp [headLeft, headerGood, h]

theorem classifyCell_unmapped {s : State} {c : Cell} (h : mapLabel s.rules (cellLabel c) = none) :
    classifyCell s c = unadmittedCell s c .noRule none := by
  simp [classifyCell, h]

theorem classifyCell_clear {s : State} {c : Cell} {n : Nat} (h : mapLabel s.rules (cellLabel c) = some n)
    (hn : n ∉ s.occupancy) : classifyCell s c = unadmittedCell s c .unadmitted (some n) := by
  simp [classifyCell, h, occupied, hn]

theorem classifyCell_occupied {s : State} {c : Cell} {n : Nat} (h : mapLabel s.rules (cellLabel c) = some n)
    (hn : n ∈ s.occupancy) : classifyCell s c = offerCell s c n := by
  simp [classifyCell, h, occupied, hn]

theorem unadmittedCell_discard {s : State} (h : s.setup.unadmitted = .discard) (c : Cell) (reason : Discard)
    (number : Option Nat) : unadmittedCell s c reason number = discardCell s reason := by
  simp [unadmittedCell, h]

theorem unadmittedCell_pass {s : State} (h : s.setup.unadmitted = .pass) (c : Cell) (reason : Discard)
    (number : Option Nat) : unadmittedCell s c reason number = { s with stage := some (.unpoliced c number) } := by
  simp [unadmittedCell, h]

/-- Settles O13: the header check, the classification, and for a cell with no record to go to the policy in force. -/
theorem ingressHeadResult : Obligations.IngressHeadResult := by
  unfold Obligations.IngressHeadResult
  intro s c rest hpin hdevice hstage hhead
  rw [exec_ingressHeadLeaves hpin hdevice hstage hhead]
  refine ⟨fun hbad => ?_, fun hgood => ?_⟩
  · rw [headLeft_bad hbad]
    rfl
  rw [headLeft_good hgood]
  refine ⟨fun hnone => ?_, fun n hn => ⟨fun hclear => ?_, fun hset => ?_⟩⟩
  · rw [classifyCell_unmapped (by exact hnone)]
    refine ⟨fun hpolicy => ?_, fun hpolicy => ?_⟩
    · rw [unadmittedCell_discard (by exact hpolicy)]
      rfl
    · rw [unadmittedCell_pass (by exact hpolicy)]
  · rw [classifyCell_clear (by exact hn) (by exact hclear)]
    refine ⟨fun hpolicy => ?_, fun hpolicy => ?_⟩
    · rw [unadmittedCell_discard (by exact hpolicy)]
      rfl
    · rw [unadmittedCell_pass (by exact hpolicy)]
  · rw [classifyCell_occupied (by exact hn) (by exact hset)]

end Sys2Proof.Proofs

/-! SUPPORT. The lasting state: the rules, the SETUP parameters, the records-preserved indication and the data of record
memory (R47, R89, R173, R174); and which events may change a part of it. -/

namespace Sys2Proof.Proofs

open Sys2Proof Sys2Proof.Machine Sys2Proof.Safety Sys2Proof.Laws

/-! ### What an operation changes of the lasting state -/

/-- The parts of the lasting state. -/
inductive Lasting where
  | rules | setup | preserved | data

/-- The events at which a part of the lasting state may change, the resets apart. -/
inductive MayChange : Instr → Lasting → Prop
  | ruleWrite : MayChange .ruleWrite .rules
  | setup : MayChange .setup .setup
  | formatEnd : MayChange .formatWriteComplete .preserved
  | resumeEndAtRead (damage : Damage) : MayChange (.resumeReadComplete damage) .preserved
  | resumeEndAtWrite : MayChange .resumeWriteComplete .preserved
  | restartEnd : MayChange .restartComplete .preserved
  | writeBack : MayChange .writeBackComplete .data
  | sweepWrite (during : VisitEvents) : MayChange (.sweepWriteComplete during) .data
  | formatWrite : MayChange .formatWriteComplete .data
  | resumeWrite : MayChange .resumeWriteComplete .data

/-- The lasting state is as it was, but for the parts in `w`; so is the queue of waiting events (log 2). The errors of
record memory may differ: a read finds them (R90). -/
structure SameBut (w : Lasting → Prop) (s t : State) : Prop where
  pending : t.pending = s.pending := by rfl
  rules : ¬w .rules → t.rules = s.rules := by exact fun _ => rfl
  setup : ¬w .setup → t.setup = s.setup := by exact fun _ => rfl
  preserved : ¬w .preserved → t.preserved = s.preserved := by exact fun _ => rfl
  data : ¬w .data → ∀ a, t.memory.readByte a = s.memory.readByte a := by exact fun _ _ => rfl

section

variable {w : Lasting → Prop}

namespace SameBut

theorem refl (s : State) : SameBut w s s := { }

theorem trans {s t u : State} (h1 : SameBut w s t) (h2 : SameBut w t u) : SameBut w s u where
  pending := h2.pending.trans h1.pending
  rules hw := (h2.rules hw).trans (h1.rules hw)
  setup hw := (h2.setup hw).trans (h1.setup hw)
  preserved hw := (h2.preserved hw).trans (h1.preserved hw)
  data hw a := (h2.data hw a).trans (h1.data hw a)

theorem of_kept {s t : State} (h : Kept s t) : SameBut w s t where
  pending := h.pending
  rules _ := h.rules
  setup _ := h.setup
  preserved _ := h.preserved
  data _ a := congrArg (·.readByte a) h.memory

theorem of_visit {k : Nat} {s t : State} (h : KeptByVisit k s t) : SameBut w s t := by
  obtain ⟨j, out, responses, notices, -, hkept⟩ := h
  exact trans { } (of_kept hkept)

theorem of_linkOnly {s t : State} (h : LinkOnly s t) : SameBut w s t := by
  obtain ⟨_, _, _, _, _, _, _, rfl⟩ := h
  exact { }

theorem setRules (hw : w .rules) (s : State) (r : Vector Rule 16) : SameBut w s { s with rules := r } :=
  { rules := fun h => absurd hw h }

theorem setSetup (hw : w .setup) (s : State) (p : SetupParams) : SameBut w s { s with setup := p } :=
  { setup := fun h => absurd hw h }

theorem setPreserved (hw : w .preserved) (s : State) (x : Option Preserved) : SameBut w s { s with preserved := x } :=
  { preserved := fun h => absurd hw h }

theorem writeImage (hw : w .data) (s : State) (n : Nat) (r : Record) : SameBut w s (writeImage s n r) :=
  { data := fun h => absurd hw h }

/-- The damage that a read finds is no data. -/
theorem damaged (s : State) (n : Nat) (damage : Damage) : SameBut w s (damaged s n damage) :=
  { data := fun _ => Memory.readByte_addDamage _ _ _ }

end SameBut

/-! ### The Maintenance Engine and the link -/

theorem takeNext_sameBut (s : State) : SameBut w s (takeNext s) := by
  unfold takeNext
  split <;> exact { }

theorem complete_sameBut (s : State) (c : Command) (o : OutcomeCode) (p : List Byte) :
    SameBut w s (complete s c o p) :=
  .trans { } (takeNext_sameBut _)

theorem answer_sameBut (s : State) (c : Command) (o : OutcomeCode) : SameBut w s (answer s c o) :=
  complete_sameBut s c o []

theorem completeOperation_sameBut (s : State) (p : List Byte) : SameBut w s (completeOperation s p) := by
  unfold completeOperation
  split
  · exact complete_sameBut _ _ _ _
  · exact .refl s

theorem setupEffect_sameBut (hw : w .setup) (s : State) (c : Command) : SameBut w s (setupEffect s c) := by
  unfold setupEffect
  split
  · split
    · exact answer_sameBut _ _ _
    · split
      · exact ((SameBut.setSetup hw s _).trans { }).trans (answer_sameBut _ _ _)
      · exact answer_sameBut _ _ _
  · exact answer_sameBut _ _ _

theorem ruleWriteEffect_sameBut (hw : w .rules) (s : State) (c : Command) : SameBut w s (ruleWriteEffect s c) := by
  unfold ruleWriteEffect
  split
  · split
    · split
      · exact (SameBut.setRules hw s _).trans (answer_sameBut _ _ _)
      · exact answer_sameBut _ _ _
    · exact answer_sameBut _ _ _
  · exact answer_sameBut _ _ _

theorem ruleReadEffect_sameBut (s : State) (c : Command) : SameBut w s (ruleReadEffect s c) := by
  unfold ruleReadEffect
  split
  · split
    · exact complete_sameBut _ _ _ _
    · exact answer_sameBut _ _ _
  · exact answer_sameBut _ _ _

theorem statusEffect_sameBut (s : State) (c : Command) : SameBut w s (statusEffect s c) := by
  unfold statusEffect
  split
  · exact complete_sameBut _ _ _ _
  · exact answer_sameBut _ _ _

theorem formatEffect_sameBut (s : State) (c : Command) : SameBut w s (formatEffect s c) := by
  unfold formatEffect
  split
  · exact { }
  · exact answer_sameBut _ _ _

theorem resumeEffect_sameBut (s : State) (c : Command) : SameBut w s (resumeEffect s c) := by
  unfold resumeEffect
  split
  · exact { }
  · exact answer_sameBut _ _ _

theorem restartEffect_sameBut (s : State) (c : Command) : SameBut w s (restartEffect s c) := by
  unfold restartEffect
  split
  · exact { }
  · exact answer_sameBut _ _ _

theorem acceptCommand_sameBut (s : State) (c : Command) : SameBut w s (acceptCommand s c) :=
  .trans { } (takeNext_sameBut _)

theorem execCommand_sameBut {tag code : Byte} {params : List Byte} {check : BitVec 16} {more : Nat} {s t : State}
    (h : execCommand tag code params check s more = .next t) : SameBut w s t := by
  refine onLink_elim h (.refl s) ?_
  split
  · exact .refl s
  · dsimp only
    split
    · exact .trans { } (acceptCommand_sameBut _ _)
    · exact { }

theorem execTransactionAbandon_sameBut {what : Abandoned} {s t : State}
    (h : execTransactionAbandon what s = .next t) : SameBut w s t := by
  cases h
  split
  · exact .refl s
  · split
    · exact { }
    · split <;> exact { }

/-- A record command's event: the command is the current one, and so in no operation (R136). -/
theorem recordEvent_sameBut {code : Byte} {refusal : Command → Option OutcomeCode} {s t : State}
    (h : onCurrent s code (fun c => recordCommand s c (refusal c)) = .next t) : SameBut w s t :=
  onCurrent_elim h (.refl s) fun c he _ => .of_kept (recordCommand_kept (by rw [he]; rfl) c _)

/-! ### The memory path -/

theorem issueNext_sameBut (s : State) : SameBut w s (issueNext s) := by
  unfold issueNext
  repeat' split
  all_goals exact { }

theorem requestWriteBacks_sameBut (s : State) : SameBut w s (requestWriteBacks s) := by
  unfold requestWriteBacks
  split <;> exact { }

theorem restartWritten_sameBut (hw : w .data) (s : State) (i : Fin 64) (n : Nat) (copy : Record) (f p : Bool)
    (k : Nat) : SameBut w s (restartWritten s i n copy f p k) := by
  refine (SameBut.writeImage hw s n copy).trans ?_
  obtain h | ⟨h, -⟩ := restartWritten_kept s i n copy f p k
  · exact .of_kept h
  · exact .trans { } (.of_kept h)

theorem execWriteBackComplete_sameBut (hw : w .data) {s t : State} (h : execWriteBackComplete s = .next t) :
    SameBut w s t := by
  unfold execWriteBackComplete at h
  split at h
  · rename_i rest _
    have taken : SameBut w s { s with inFlight := rest } := { }
    split at h
    · exact completing_elim h (.refl s)
        ((taken.trans (.writeImage hw _ _ _)).trans (.of_kept (evictionWritten_kept _ _ _ _ _)))
    · exact completing_elim h (.refl s) (taken.trans (restartWritten_sameBut hw _ _ _ _ _ _ _))
    · cases h
      exact .refl s
  · cases h
    exact .refl s

theorem execFillReadComplete_sameBut {damage : Damage} {s t : State} (h : execFillReadComplete damage s = .next t) :
    SameBut w s t := by
  unfold execFillReadComplete at h
  split at h
  · rename_i rest _
    have taken : SameBut w s { s with inFlight := rest } := { }
    split at h
    · exact completing_elim h (.refl s)
        ((taken.trans (.damaged _ _ damage)).trans (.of_kept (filled_kept _ _ _ damage)))
    · cases h
      exact .refl s
  · cases h
    exact .refl s

theorem execSweepReadComplete_sameBut {damage : Damage} {during : VisitEvents} {s t : State}
    (h : execSweepReadComplete damage s during = .next t) : SameBut w s t := by
  unfold execSweepReadComplete at h
  split at h
  · rename_i rest _
    have taken : SameBut w s { s with inFlight := rest } := { }
    exact completing_elim h (.refl s)
      ((taken.trans (.damaged _ _ damage)).trans (.of_visit (sweepVisited_kept _ _ damage during)))
  · cases h
    exact .refl s

theorem execSweepWriteComplete_sameBut (hw : w .data) {during : VisitEvents} {s t : State}
    (h : execSweepWriteComplete s during = .next t) : SameBut w s t := by
  unfold execSweepWriteComplete at h
  split at h
  · rename_i rest _ _ _ _
    have taken : SameBut w s { s with inFlight := rest } := { }
    exact completing_elim h (.refl s)
      ((taken.trans (.writeImage hw _ _ _)).trans (.of_visit (sweepWritten_kept _ _ _ during)))
  · cases h
    exact .refl s

/-! ### The device-wide operations -/

theorem enterRunning_sameBut (hw : w .preserved) (s : State) : SameBut w s (enterRunning s) :=
  (SameBut.setPreserved hw s none).trans { }

theorem formatWritten_sameBut (hp : w .preserved) (hd : w .data) (s : State) (n : Nat) :
    SameBut w s (formatWritten s n) := by
  have written := SameBut.writeImage hd s n Record.blank
  unfold formatWritten
  dsimp only
  split
  · have emptied : SameBut w _ { Machine.writeImage s n Record.blank with occupancy := [], owedCount := 0 } :=
      written.trans { }
    exact (emptied.trans (enterRunning_sameBut hp _)).trans (completeOperation_sameBut _ _)
  · exact written

theorem finishResume_sameBut (hw : w .preserved) (s : State) : SameBut w s (finishResume s) := by
  obtain e | ⟨⟨p, e⟩, -⟩ := finishResume_cases s <;> rw [e]
  · exact .refl s
  · exact (enterRunning_sameBut hw s).trans (completeOperation_sameBut _ p)

theorem resumeJudged_sameBut (hw : w .preserved) (s : State) (n next : Nat) (counts : StateCounts)
    (writes : List (Nat × Record)) (damage : Damage) : SameBut w s (resumeJudged s n next counts writes damage) := by
  have read : SameBut w s (readImage s n .resume false damage).1 :=
    (SameBut.damaged s n damage).trans (.of_kept (readImage_kept s n .resume false damage))
  have offered := read.trans (.of_kept (offerFaulted_kept _ n (readImage s n .resume false damage).2))
  exact (offered.trans { }).trans (finishResume_sameBut hw _)

theorem endRestart_sameBut (hw : w .preserved) (s : State) (k : Nat) : SameBut w s (endRestart s k) :=
  ((SameBut.setPreserved hw s (some ⟨s.setup.capacity, s.setup.tickPeriod, s.setup.guard⟩)).trans { }).trans
    (completeOperation_sameBut _ _)

theorem execFormatWriteComplete_sameBut (hp : w .preserved) (hd : w .data) {s t : State}
    (h : execFormatWriteComplete s = .next t) : SameBut w s t := by
  unfold execFormatWriteComplete at h
  split at h
  · exact completing_elim h (.refl s) (.trans { } (formatWritten_sameBut hp hd _ _))
  · cases h
    exact .refl s

theorem execResumeReadComplete_sameBut (hw : w .preserved) {damage : Damage} {s t : State}
    (h : execResumeReadComplete damage s = .next t) : SameBut w s t := by
  unfold execResumeReadComplete at h
  split at h
  · exact completing_elim h (.refl s) (.trans { } (resumeJudged_sameBut hw _ _ _ _ _ damage))
  · cases h
    exact .refl s

theorem execResumeWriteComplete_sameBut (hp : w .preserved) (hd : w .data) {s t : State}
    (h : execResumeWriteComplete s = .next t) : SameBut w s t := by
  unfold execResumeWriteComplete at h
  split at h
  · rename_i rest _
    have taken : SameBut w s { s with inFlight := rest } := { }
    exact completing_elim h (.refl s) ((taken.trans (.writeImage hd _ _ _)).trans (finishResume_sameBut hp _))
  · cases h
    exact .refl s

end

/-! ### Every event -/

/-- Every event but the resets leaves the lasting state as it was, but for the parts that it may change. -/
theorem exec_sameBut {c : Instr} {s t : State} (h : exec c s = .next t) (hreset : isResetEvent c = false) :
    SameBut (MayChange c) s t := by
  cases c with
  | powerOn low sram errors => cases hreset
  | resetPinAssert words => cases hreset
  | resetPinDeassert low => cases hreset
  | tick =>
    refine whileRunning_elim h (.refl s) ?_
    split
    · exact (SameBut.of_visit (takeDueStep_kept .none s)).trans { }
    · exact { }
  | sweepStep during =>
    refine whileRunning_elim h (.refl s) ?_
    split
    · exact .of_visit (takeDueStep_kept during s)
    · exact .refl s
  | ingressTransferBegin first => exact whileRunning_elim h (.refl s) { }
  | partialCellDropped first =>
    refine whileRunning_elim h (.refl s) ?_
    split <;> exact { }
  | cellAccept rest =>
    refine whileRunning_elim h (.refl s) ?_
    split <;> exact { }
  | ingressHeadLeaves =>
    refine whileRunning_elim h (.refl s) ?_
    split
    · exact .trans { } (.of_kept (headLeft_kept _ _))
    · exact .refl s
  | egressPlaceGrant requester =>
    refine whileRunning_elim h (.refl s) ?_
    split
    · split
      · exact .of_kept (grantStage_kept s)
      · exact .of_kept (serveCell_kept s _)
    · exact .refl s
  | cellEmit =>
    refine whileRunning_elim h (.refl s) ?_
    split <;> exact { }
  | memoryIssue =>
    refine whileRunning_elim h (.refl s) ?_
    split
    · exact issueNext_sameBut s
    · exact .refl s
  | writeBackComplete => exact execWriteBackComplete_sameBut .writeBack h
  | fillReadComplete damage => exact execFillReadComplete_sameBut h
  | sweepReadComplete damage during => exact execSweepReadComplete_sameBut h
  | sweepWriteComplete during => exact execSweepWriteComplete_sameBut (.sweepWrite during) h
  | formatWriteComplete => exact execFormatWriteComplete_sameBut .formatEnd .formatWrite h
  | resumeReadComplete damage => exact execResumeReadComplete_sameBut (.resumeEndAtRead damage) h
  | resumeWriteComplete => exact execResumeWriteComplete_sameBut .resumeEndAtWrite .resumeWrite h
  | restartWriteBackRequest =>
    refine whileRunning_elim h (.refl s) ?_
    split
    · exact requestWriteBacks_sameBut s
    · exact .refl s
  | restartComplete =>
    refine whileRunning_elim h (.refl s) ?_
    split
    · exact endRestart_sameBut .restartEnd s _
    · exact .refl s
  | command tag code params check more => exact execCommand_sameBut h
  | responseRead entered more => exact onLink_elim h (.refl s) (.of_linkOnly (readResponse_linkOnly s _ _))
  | noticeRead entered more => exact onLink_elim h (.refl s) (.of_linkOnly (readNotice_linkOnly s _ _))
  | linkStatus more => exact onLink_elim h (.refl s) { }
  | voidTransaction first more =>
    refine onLink_elim h (.refl s) ?_
    split <;> exact { }
  | transactionAbandon what => exact execTransactionAbandon_sameBut h
  | setup => exact onCurrent_elim h (.refl s) fun c _ _ => setupEffect_sameBut .setup s c
  | format => exact onCurrent_elim h (.refl s) fun c _ _ => formatEffect_sameBut s c
  | resume => exact onCurrent_elim h (.refl s) fun c _ _ => resumeEffect_sameBut s c
  | restart => exact onCurrent_elim h (.refl s) fun c _ _ => restartEffect_sameBut s c
  | status => exact onCurrent_elim h (.refl s) fun c _ _ => statusEffect_sameBut s c
  | ruleWrite => exact onCurrent_elim h (.refl s) fun c _ _ => ruleWriteEffect_sameBut .ruleWrite s c
  | ruleRead => exact onCurrent_elim h (.refl s) fun c _ _ => ruleReadEffect_sameBut s c
  | admitRecord => exact recordEvent_sameBut h
  | amend => exact recordEvent_sameBut h
  | hold => exact recordEvent_sameBut h
  | release => exact recordEvent_sameBut h
  | retire => exact recordEvent_sameBut h
  | query => exact recordEvent_sameBut h
  | pin => exact recordEvent_sameBut h
  | unpin => exact recordEvent_sameBut h
  | commandStepRetry =>
    refine whileRunning_elim h (.refl s) ?_
    split
    · rename_i c he
      exact .of_kept (recordStep_kept (by rw [he]; rfl) c _)
    · exact .refl s

/-- A reset leaves the model's queue, which is not the device's (log 2). -/
theorem exec_reset_pending {c : Instr} {s t : State} (h : exec c s = .next t) (hreset : isResetEvent c = true) :
    t.pending = s.pending := by
  cases c with
  | powerOn low sram errors =>
    cases h
    rfl
  | resetPinAssert words =>
    cases h
    split <;> rfl
  | resetPinDeassert low =>
    cases h
    split <;> rfl
  | _ => cases hreset

/-- Settles O47: each event leaves what it may not change (`MayChange`), and no event the queue of waiting events. -/
theorem whatChangesLastingState : Obligations.WhatChangesLastingState := by
  unfold Obligations.WhatChangesLastingState
  refine ⟨fun c s t h => ?_, fun c s t h hreset => ?_⟩
  · cases hreset : isResetEvent c with
    | true => exact exec_reset_pending h hreset
    | false => exact (exec_sameBut h hreset).pending
  · have same := exec_sameBut h hreset
    refine ⟨fun hrule => same.rules ?_, fun hsetup => same.setup ?_, fun hformat hread hwrite hrestart =>
      same.preserved ?_, fun hback hsweep hformat hresume => same.data ?_⟩
    · rintro ⟨⟩
      exact hrule rfl
    · rintro ⟨⟩
      exact hsetup rfl
    · intro hmay
      cases hmay with
      | formatEnd => exact hformat rfl
      | resumeEndAtRead damage => exact hread damage rfl
      | resumeEndAtWrite => exact hwrite rfl
      | restartEnd => exact hrestart rfl
    · intro hmay
      cases hmay with
      | writeBack => exact hback rfl
      | sweepWrite during => exact hsweep during rfl
      | formatWrite => exact hformat rfl
      | resumeWrite => exact hresume rfl

end Sys2Proof.Proofs

/-! SUPPORT. The entries of the Miss Table with their target lines (R61, R70): every operation keeps the entries
apart. -/

namespace Sys2Proof.Proofs

open Sys2Proof Sys2Proof.Machine Sys2Proof.Safety Sys2Proof.Laws

/-- The record that an entry names, and its target line. -/
def place (e : Entry) : Nat × Fin 64 := (e.number, e.target)

theorem place_of_bare {e e' : Entry} (h : bare e' = bare e) : place e' = place e := by
  obtain ⟨hn, -, ht, -⟩ := StoreSound.bare_eq h
  rw [place, place, hn, ht]

theorem place_movedOn (n : Nat) (ph : Phase) (e : Entry) : place (movedOn n ph e) = place e := by
  obtain ⟨hn, ht, -⟩ := movedOn_same n ph e
  rw [place, place, hn, ht]

/-- Entries were freed at most, each with a VALID target line; no line came to be EMPTY, and none to be reserved. -/
structure PlacesKept (s t : State) : Prop where
  entries : (t.missTable.map place).Sublist (s.missTable.map place)
  left : ∀ e ∈ s.missTable, place e ∈ t.missTable.map place ∨ validLine (lineAt s.lines e.target) = true
  used : ∀ i, role t i = (none, none) → role s i = (none, none)
  reserved : ∀ i n, (role t i).2 = some n → ∃ m, (role s i).2 = some m

namespace PlacesKept

variable {s t : State}

/-- The entries name the records that they named, and have the target lines that they had. -/
theorem of_places (hp : t.missTable.map place = s.missTable.map place)
    (hu : ∀ i, role t i = (none, none) → role s i = (none, none))
    (hr : ∀ i n, (role t i).2 = some n → ∃ m, (role s i).2 = some m) : PlacesKept s t :=
  ⟨hp ▸ .refl _, fun _ he => .inl (hp ▸ List.mem_map_of_mem he), hu, hr⟩

theorem of_roles (hp : t.missTable.map place = s.missTable.map place) (hr : ∀ i, role t i = role s i) :
    PlacesKept s t :=
  of_places hp (fun i hi => hr i ▸ hi) fun i n hi => ⟨n, hr i ▸ hi⟩

/-- The store's lines and entries are as they were. -/
theorem same (hl : t.lines = s.lines := by rfl) (hm : t.missTable = s.missTable := by rfl) : PlacesKept s t :=
  of_roles (by rw [hm]) fun i => by rw [role, role, hl]

/-- A VALID line was put for one that holds the same record. -/
theorem of_valid {i : Fin 64} {n : Nat} {r q : Record} {d f p d' f' p' : Bool}
    (line : lineAt s.lines i = .valid n r d f p) (hl : t.lines = s.lines.set i.val (.valid n q d' f' p') i.isLt)
    (hm : t.missTable = s.missTable) : PlacesKept s t :=
  of_roles (by rw [hm]) fun j => by
    rw [role, hl]
    exact StoreSound.role_valid line j

theorem of_served (ht : Served s.lines s.missTable t.missTable) (hl : t.lines = s.lines) : PlacesKept s t := by
  have hbare (l : List Entry) : (l.map bare).map place = l.map place := by
    rw [List.map_map]
    rfl
  refine ⟨by simpa only [hbare] using ht.sub.map place, fun e he => (ht.left e he).imp_left fun hb => ?_,
    fun i hi => ?_, fun i n hi => ⟨n, ?_⟩⟩
  · obtain ⟨e', he', heq⟩ := List.mem_map.1 hb
    exact List.mem_map.2 ⟨e', he', place_of_bare heq⟩
  · rwa [role, hl] at hi
  · rwa [role, hl] at hi

/-- Entries stay distinct, and the reserved lines the target lines of entries (R61, R70). -/
theorem entriesDistinct (h : PlacesKept s t) (hs : EntriesDistinct s) : EntriesDistinct t := by
  obtain ⟨hnumbers, htargets, hused, hreserved⟩ := hs
  have nodup {α : Type} (f : Nat × Fin 64 → α) (hnd : (s.missTable.map fun e => f (place e)).Nodup) :
      (t.missTable.map fun e => f (place e)).Nodup := by
    have hsub := h.entries.map f
    rw [List.map_map, List.map_map] at hsub
    exact hnd.sublist hsub
  refine ⟨nodup Prod.fst hnumbers, nodup Prod.snd htargets, fun e he hempty => ?_, fun i hi => ?_⟩
  · obtain ⟨e', he', hplace⟩ := List.mem_map.1 (h.entries.subset (List.mem_map_of_mem he))
    obtain ⟨-, htarget⟩ := Prod.mk.inj hplace
    have hs := h.used _ ((empty_iff _).1 hempty)
    exact hused e' he' ((empty_iff _).2 (htarget ▸ hs))
  · obtain ⟨n, hn⟩ := (reservedLine_iff _).1 hi
    have hres := h.reserved i n hn
    obtain ⟨e, he, rfl⟩ := (isTarget_iff _ _).1 (hreserved i ((reservedLine_iff _).2 hres))
    obtain ⟨m, hm⟩ := hres
    rcases h.left e he with hleft | hvalid
    · obtain ⟨e', he', hplace⟩ := List.mem_map.1 hleft
      exact (isTarget_iff _ _).2 ⟨e', he', (Prod.mk.inj hplace).2⟩
    · obtain ⟨k, hk⟩ := (validLine_iff _).1 hvalid
      rw [role, hk] at hm
      cases hm

end PlacesKept

theorem entriesDistinct_of_same {s t : State} (h : EntriesDistinct s) (hl : t.lines = s.lines := by rfl)
    (hm : t.missTable = s.missTable := by rfl) : EntriesDistinct t :=
  (PlacesKept.same hl hm).entriesDistinct h

/-! ### The operations of the Record Store -/

/-- No entry has the line for its target that victim selection chooses (R67). -/
theorem target_ne_victim {s : State} (h : EntriesDistinct s) {n : Nat} {v : Victim}
    (hv : selectVictim s n = some v) {e : Entry} (he : e ∈ s.missTable) : e.target ≠ v.target := fun heq => by
  obtain ⟨-, -, hempty | hfree, -⟩ := StoreSound.role_selectVictim hv
  · exact h.2.2.1 e he ((empty_iff _).2 (heq ▸ hempty))
  · rw [← Bool.not_eq_true, isTarget_iff] at hfree
    exact hfree ⟨e, he, heq⟩

/-- An entry opened names a record that no other names, and its target line is one that no other has (R67, R71). -/
theorem entriesDistinct_opened {s t : State} (h : EntriesDistinct s) {n : Nat} {ph : Phase} {w : Waiter}
    (hnamed : standing s n ≠ .named) (ho : openEntry s n ph w = some t) : EntriesDistinct t := by
  obtain ⟨v, ho⟩ := openedFrom_of_openEntry ho
  have hr := ho.reserved
  have hvictim := fun e he => target_ne_victim h ho.victim (e := e) he
  obtain ⟨hnumbers, htargets, hused, hreserved⟩ := h
  have hfresh {α : Type} (f : Entry → α) (hnd : (s.missTable.map f).Nodup)
      (hf : ∀ e ∈ s.missTable, f e ≠ f (Proofs.opened n ph v w)) : (t.missTable.map f).Nodup := by
    rw [ho.table, List.map_append, List.nodup_append]
    refine ⟨hnd, by simp, fun a ha b hb => ?_⟩
    obtain ⟨e, he, rfl⟩ := List.mem_map.1 ha
    simp only [List.map_cons, List.map_nil, List.mem_singleton] at hb
    exact hb ▸ hf e he
  refine ⟨hfresh _ hnumbers (findEntry_none.1 (findEntry_of_standing hnamed)), hfresh _ htargets hvictim,
    fun e he hempty => ?_, fun i hi => (isTarget_iff _ _).2 ?_⟩
  · have hrole : role t e.target = (none, none) := (empty_iff _).1 hempty
    rw [ho.table, List.mem_append, List.mem_singleton] at he
    rcases he with he | rfl
    · rw [hr.others _ (hvictim e he)] at hrole
      exact hused e he ((empty_iff _).2 hrole)
    · have hnow := hr.reserved
      rw [show role t v.target = (none, none) from hrole] at hnow
      cases hnow
  · rw [ho.table]
    by_cases hiv : i = v.target
    · exact ⟨Proofs.opened n ph v w, by simp, hiv.symm⟩
    · have hbefore : reservedLine (lineAt s.lines i) = true := by
        obtain ⟨m, hm⟩ := (reservedLine_iff _).1 hi
        have hrole : (role t i).2 = some m := hm
        rw [hr.others i hiv] at hrole
        exact (reservedLine_iff _).2 ⟨m, hrole⟩
      obtain ⟨e, he, rfl⟩ := (isTarget_iff _ _).1 (hreserved i hbefore)
      exact ⟨e, by simp [he], rfl⟩

theorem StoreOp.entriesDistinct {s t : State} (ho : StoreOp s t) (h : EntriesDistinct s) : EntriesDistinct t := by
  cases ho with
  | quiet hq => exact (PlacesKept.of_served hq.table hq.lines).entriesDistinct h
  | claimed line _ _ => exact PlacesKept.entriesDistinct (s := s) (.of_valid line rfl rfl) h
  | opened hnamed _ _ hopen => exact entriesDistinct_opened h hnamed hopen
  | sweepBegun _ _ _ => exact entriesDistinct_of_same h

theorem Acts.entriesDistinct {s t : State} (ha : Acts s t) (h : EntriesDistinct s) : EntriesDistinct t := by
  induction ha with
  | refl => exact h
  | tail _ ho ih => exact ho.entriesDistinct ih

/-! ### The memory path and the device-wide operations -/

/-- A write completed moves entries on, and changes no entry's record and no target line. -/
theorem ImageWritten.places {s t : State} {n : Nat} {ph : Phase} {copy : Record} (h : ImageWritten s t n ph copy) :
    t.missTable.map place = s.missTable.map place := by
  rw [h.table, List.map_map]
  exact List.map_congr_left fun e _ => place_movedOn n ph e

theorem places_updateEntry (t : List Entry) (n : Nat) {f : Entry → Entry} (hf : ∀ e, place (f e) = place e) :
    (updateEntry t n fun e => some (f e)).map place = t.map place := by
  induction t with
  | nil => rfl
  | cons e l ih =>
    rw [updateEntry]
    split
    · rw [List.map_cons, List.map_cons, hf]
    · rw [List.map_cons, List.map_cons, ih]

theorem MemoryOp.placesKept {s t : State} (ho : MemoryOp s t) : PlacesKept s t := by
  cases ho with
  | issued hp =>
    obtain ⟨q, rest, -, e⟩ | ⟨q, -, e⟩ | e := issueNext_of_none hp <;> rw [e] <;> exact .same
  | @evicted i old reserved copy rest _ line _ =>
    obtain ⟨himage, hlines, -, -⟩ := evictionWritten_image { s with inFlight := rest } i old copy reserved
    generalize evictionWritten { s with inFlight := rest } i old copy reserved = t at *
    have hi : role s i = (some old, some reserved) := by
      rw [role, line]
      rfl
    have hrole (j : Fin 64) : role t j = if j = i then (none, some reserved) else role s j := by
      rw [role, hlines]
      exact StoreSound.role_set s i j _
    refine .of_places himage.places (fun j hj => ?_) fun j m hj => ?_ <;> rw [hrole] at hj <;> split at hj
    · cases hj
    · exact hj
    · rename_i hji
      exact ⟨reserved, by rw [hji, hi]⟩
    · exact ⟨m, hj⟩
  | @landed n e rest damage _ _ _ =>
    obtain ⟨q, -, -, hlines, htable, -, -⟩ := landed_read { s with inFlight := rest } n e.target damage
    generalize Proofs.landed { s with inFlight := rest } n e.target damage = t at *
    have hrole (j : Fin 64) : role t j = if j = e.target then (some n, none) else role s j := by
      rw [role, hlines]
      exact StoreSound.role_set s e.target j _
    refine .of_places ?_ (fun j hj => ?_) fun j m hj => ?_
    · rw [htable]
      exact places_updateEntry _ n fun _ => rfl
    all_goals rw [hrole] at hj; split at hj
    · cases hj
    · exact hj
    · cases hj
    · exact ⟨m, hj⟩
  | @swept n rest damage during _ _ =>
    obtain ⟨q, -, hlines, htable, -, -⟩ := swept_read { s with inFlight := rest } n damage during
    exact .same hlines htable
  | @released n m copy rest _ _ _ =>
    obtain ⟨himage, hlines, -, -⟩ := released_image { s with inFlight := rest } n copy
    refine .of_roles himage.places fun i => ?_
    rw [role, hlines]
    rfl

/-- With no entry and every line EMPTY nothing is reserved. -/
theorem entriesDistinct_of_empty {s : State} (hm : s.missTable = []) (hl : ∀ i, lineAt s.lines i = .empty) :
    EntriesDistinct s := by
  refine ⟨by simp [hm], by simp [hm], by simp [hm], fun i hi => ?_⟩
  rw [hl] at hi
  cases hi

theorem issueNext_places (s : State) : PlacesKept s (issueNext s) := by
  unfold issueNext
  repeat' split
  all_goals exact .same

theorem Quiet.entriesDistinct {s t : State} (hq : Quiet s t) (h : EntriesDistinct s) : EntriesDistinct t :=
  (StoreOp.quiet hq).entriesDistinct h

theorem finishResume_entriesDistinct {s : State} (h : EntriesDistinct s) : EntriesDistinct (finishResume s) := by
  obtain e | ⟨⟨p, e⟩, -⟩ := finishResume_cases s <;> rw [e]
  · exact h
  · exact (completeOperation_quiet _ _).entriesDistinct (entriesDistinct_of_same h)

theorem formatWritten_entriesDistinct {s : State} (h : EntriesDistinct s) (n : Nat) :
    EntriesDistinct (formatWritten s n) := by
  unfold formatWritten
  dsimp only
  split
  · exact (completeOperation_quiet _ _).entriesDistinct (entriesDistinct_of_same h)
  · exact entriesDistinct_of_same h

theorem resumeJudged_entriesDistinct {s : State} (h : EntriesDistinct s) (n next : Nat) (counts : StateCounts)
    (writes : List (Nat × Record)) (damage : Damage) :
    EntriesDistinct (resumeJudged s n next counts writes damage) := by
  unfold resumeJudged
  dsimp only
  generalize hread : readImage s n .resume false damage = read
  obtain ⟨new, occupancy, owed, hoffer⟩ := (offerFaulted_frame read.1 n read.2).1
  rw [hoffer, ← hread]
  exact finishResume_entriesDistinct (entriesDistinct_of_same h)

/-- A write-back of RESTART leaves its line VALID; after the last every line is EMPTY, and no entry is left (R87). -/
theorem restartWritten_entriesDistinct {s : State} (h : EntriesDistinct s) (hm : s.missTable = []) {i : Fin 64}
    {n : Nat} {copy : Record} {d f p : Bool} (hl : lineAt s.lines i = .valid n copy d f p) (requested : Nat) :
    EntriesDistinct (restartWritten s i n copy f p requested) := by
  unfold restartWritten
  dsimp only
  split
  · exact entriesDistinct_of_empty (by simpa using hm) (by simpa using lineAt_replicate)
  · exact PlacesKept.entriesDistinct (s := s) (.of_valid hl rfl rfl) h

theorem DeviceOp.entriesDistinct {s t : State} (ho : DeviceOp s t) (hc : Coherent s) (h : EntriesDistinct s) :
    EntriesDistinct t := by
  cases ho with
  | reset asserted linkWaits memory => exact entriesDistinct_of_empty rfl lineAt_replicate
  | configured _ _ => exact entriesDistinct_of_same h
  | formatBegun _ => exact entriesDistinct_of_same h
  | resumeBegun _ => exact entriesDistinct_of_same h
  | restartBegun _ => exact entriesDistinct_of_same h
  | passIssued _ => exact (issueNext_places s).entriesDistinct h
  | formatWritten _ _ => exact formatWritten_entriesDistinct (entriesDistinct_of_same h) _
  | resumeRead damage _ _ => exact resumeJudged_entriesDistinct (entriesDistinct_of_same h) _ _ _ _ damage
  | resumeWritten _ => exact finishResume_entriesDistinct (entriesDistinct_of_same h)
  | @restartWritten i n requested copy d f p rest _ line restart =>
    obtain ⟨-, -, -, hm⟩ := hc.2 (by rw [restart]; rfl)
    exact restartWritten_entriesDistinct (s := { s with inFlight := rest }) (entriesDistinct_of_same h) hm line _
  | writeBacksRequested hd =>
    have hm : s.missTable = [] := by
      unfold drained at hd
      simp only [Bool.and_eq_true, List.isEmpty_iff] at hd
      exact hd.1.2
    unfold requestWriteBacks
    split
    · exact entriesDistinct_of_empty hm lineAt_replicate
    · exact entriesDistinct_of_same h
  | restartEnded _ => exact (completeOperation_quiet _ _).entriesDistinct (entriesDistinct_of_same h)

/-- Settles O53: every step is an opening and operations of the Record Store, each of which keeps the entries apart. -/
theorem entriesStayDistinct : Obligations.EntriesStayDistinct := by
  unfold Obligations.EntriesStayDistinct
  intro s t hc hs hstep
  obtain ⟨l, u, hopening, hacts⟩ := step_taken hstep
  have hs : EntriesDistinct { s with pending := l } := entriesDistinct_of_same hs
  refine hacts.entriesDistinct ?_
  cases hopening with
  | nothing => exact hs
  | memory ho => exact ho.placesKept.entriesDistinct hs
  | device ho => exact ho.entriesDistinct hc hs

end Sys2Proof.Proofs

/-! SUPPORT. The rooms of the device (R68, R78, R83, R118, R127, R129, R162): every event leaves each queue, FIFO, table
and window within its size. -/

namespace Sys2Proof.Proofs

-- One proof after the other: each needs a thread of its own otherwise, and there is no room for all of them at once.
set_option Elab.async false

open Sys2Proof Sys2Proof.Machine Sys2Proof.Safety Sys2Proof.Laws

/-- Whatever of the device is within its room stays so, room by room. -/
structure RoomsKept (s t : State) : Prop where
  notices : s.notices.length ≤ 16 → t.notices.length ≤ 16 := by exact id
  ingress : ingressTaken s ≤ 16 → ingressTaken t ≤ 16 := by exact id
  egress : s.egress.length ≤ 16 → t.egress.length ≤ 16 := by exact id
  table : s.missTable.length ≤ 8 → t.missTable.length ≤ 8 := by exact id
  pending : pendingTaken s ≤ 32 → pendingTaken t ≤ 32 := by exact id
  flight : s.inFlight.length ≤ 4 → t.inFlight.length ≤ 4 := by exact id
  commands : outstanding s ≤ 8 → outstanding t ≤ 8 := by exact id
  pinned : pinnedCount s ≤ 48 → pinnedCount t ≤ 48 := by exact id

theorem RoomsKept.refl (s : State) : RoomsKept s s := { }

theorem RoomsKept.trans {s t u : State} (h1 : RoomsKept s t) (h2 : RoomsKept t u) : RoomsKept s u where
  notices h := h2.notices (h1.notices h)
  ingress h := h2.ingress (h1.ingress h)
  egress h := h2.egress (h1.egress h)
  table h := h2.table (h1.table h)
  pending h := h2.pending (h1.pending h)
  flight h := h2.flight (h1.flight h)
  commands h := h2.commands (h1.commands h)
  pinned h := h2.pinned (h1.pinned h)

theorem RoomsKept.bounded {s t : State} (h : RoomsKept s t) (hs : Bounded s) : Bounded t := by
  obtain ⟨h1, h2, h3, h4, h5, h6, h7, h8⟩ := hs
  exact ⟨h.notices h1, h.ingress h2, h.egress h3, h.table h4, h.pending h5, h.flight h6, h.commands h7, h.pinned h8⟩

/-- A state within the rooms is one that any state may come to. -/
theorem RoomsKept.of_bounded {t : State} (h : Bounded t) (s : State) : RoomsKept s t := by
  obtain ⟨h1, h2, h3, h4, h5, h6, h7, h8⟩ := h
  exact ⟨fun _ => h1, fun _ => h2, fun _ => h3, fun _ => h4, fun _ => h5, fun _ => h6, fun _ => h7, fun _ => h8⟩

/-! ### The notice queue (R118) -/

theorem pushNotice_rooms {s : State} (h : noticeRoom s = true) (x : Notice) : RoomsKept s (pushNotice s x) where
  notices _ := by
    rw [noticeRoom, decide_eq_true_eq] at h
    simpa using h

theorem offerNotice_rooms (s : State) (r : Record) (k : OwedKind) (x : Notice) :
    RoomsKept s (offerNotice s r k x).1 := by
  unfold offerNotice
  split
  · exact pushNotice_rooms (by assumption) x
  · exact { }

theorem offerJudged_rooms (s : State) (n : Nat) (j : Judged) : RoomsKept s (offerJudged s n j).1 := by
  unfold offerJudged
  split
  · exact .refl s
  · exact offerNotice_rooms s _ _ _

theorem offerFaulted_rooms (s : State) (n : Nat) (f : Formed) : RoomsKept s (offerFaulted s n f).1 := by
  unfold offerFaulted
  split
  · exact offerNotice_rooms s _ _ _
  · exact .refl s

theorem readNotice_rooms (s : State) (entered more : Nat) : RoomsKept s (readNotice s entered more) := by
  unfold readNotice
  split
  · exact .refl s
  · refine { notices := fun h => ?_ }
    show (if _ then s.notices else s.notices.tail).length ≤ 16
    split
    · exact h
    · rw [List.length_tail]
      omega

theorem readWithin_rooms (s : State) (r : Option ReadWithin) : RoomsKept s (readWithin s r) := by
  unfold readWithin
  split
  · exact .refl s
  · split
    · exact .refl s
    · exact readNotice_rooms s _ _

theorem moveKinds_rooms (n : Nat) (l : List (OwedKind × Option ReadWithin)) (p : State × Record) :
    RoomsKept p.1 (moveKinds n l p).1 := by
  induction l generalizing p with
  | nil => exact .refl p.1
  | cons x t ih =>
    unfold moveKinds
    dsimp only
    split
    · split
      · refine .trans ?_ (ih _)
        exact (readWithin_rooms p.1 x.2).trans (pushNotice_rooms (by assumption) _)
      · exact readWithin_rooms p.1 x.2
    · exact ih p

theorem moveOwed_rooms (v : VisitEvents) (s : State) (n : Nat) (r : Record) : RoomsKept s (moveOwed v s n r).1 := by
  have hmoved := moveKinds_rooms n (movesWith v) (s, r)
  unfold moveOwed
  dsimp only
  split
  · exact hmoved.trans { }
  · exact hmoved

theorem visitExpiry_rooms (s : State) (n : Nat) (r : Record) : RoomsKept s (visitExpiry s n r).1 := by
  unfold visitExpiry
  split
  · exact offerNotice_rooms s _ _ _
  · exact .refl s

/-- A retirement frees no room and takes none. -/
theorem endAdmission_rooms (s : State) (n : Nat) (r : Record) : RoomsKept s (endAdmission s n r) := by
  have hcount : RoomsKept s (countEmptied s r) := { }
  have hclear (t : State) (o : List Nat) : RoomsKept t { t with occupancy := o } := { }
  exact hcount.trans (hclear _ _)

theorem visitIdle_rooms (read : Option ReadWithin) (s : State) (n : Nat) (r : Record) :
    RoomsKept s (visitIdle read s n r).1 := by
  have hread := readWithin_rooms s read
  unfold visitIdle
  split
  · dsimp only
    split
    · split
      · exact (hread.trans (pushNotice_rooms (by assumption) _)).trans (endAdmission_rooms _ n r)
      · exact hread
    · exact hread.trans (offerNotice_rooms _ _ _ _)
  · exact .refl s

theorem visitActions_rooms (v : VisitEvents) (s : State) (n : Nat) (r : Record) :
    RoomsKept s (visitActions v s n r).1 := by
  unfold visitActions
  split
  · exact .refl s
  · exact moveOwed_rooms v s n r
  · exact ((visitExpiry_rooms s n _).trans (visitIdle_rooms _ _ n _)).trans (moveOwed_rooms v _ n _)

/-! ### The pinned lines (R68) -/

theorem toList_eq_map_lineAt (ls : Vector Line 64) : ls.toList = (List.finRange 64).map (lineAt ls) :=
  List.ext_getElem (by simp) fun i _ _ => by simp [lineAt]

theorem pinnedCount_eq (s : State) :
    pinnedCount s = (List.finRange 64).countP fun i => (lineAt s.lines i).pinned := by
  rw [pinnedCount, toList_eq_map_lineAt, List.countP_map]
  rfl

/-- No line comes to be pinned that was not. -/
theorem pinnedCount_le {s t : State} (h : ∀ i, (lineAt t.lines i).pinned = true → (lineAt s.lines i).pinned = true) :
    pinnedCount t ≤ pinnedCount s := by
  rw [pinnedCount_eq, pinnedCount_eq]
  exact List.countP_mono_left fun i _ => h i

theorem pinnedCount_setLine (s : State) (i : Fin 64) (l : Line) : pinnedCount (s.setLine i l) ≤ pinnedCount s + 1 := by
  rw [pinnedCount, Laws.State.setLine_lines, Vector.toList_set, List.countP_set (by simp), ← pinnedCount]
  split <;> split <;> omega

/-- A line put whose pinned flag is set only where the line's was, or where fewer than 48 were. -/
theorem setLine_rooms {s : State} {i : Fin 64} {l : Line}
    (h : l.pinned = true → (lineAt s.lines i).pinned = true ∨ pinnedCount s < 48) : RoomsKept s (s.setLine i l) where
  pinned hs := by
    by_cases hroom : pinnedCount s < 48
    · have := pinnedCount_setLine s i l
      omega
    · refine (pinnedCount_le fun j hj => ?_).trans hs
      rw [Laws.State.setLine_lines, lineAt_set] at hj
      split at hj
      · rename_i hji
        exact hji ▸ (h hj).resolve_right hroom
      · exact hj

/-- A VALID line put with the pinned flag that the line has. -/
theorem setValid_rooms {s : State} {i : Fin 64} {n : Nat} {r : Record} {d f p p' : Bool}
    (hl : lineAt s.lines i = .valid n r d f p) (hp : p' = true → p = true) (m : Nat) (q : Record) (d' f' : Bool) :
    RoomsKept s (s.setLine i (.valid m q d' f' p')) :=
  setLine_rooms fun h => .inl (by rw [hl]; exact hp h)

/-! ### Claims -/

/-- What a command's claim leaves of the rooms: the notices, and room for the line that it pins (R68, R156). -/
def ClaimFits (s : State) (m : Met) (k : Claimed) : Prop :=
  k.state.notices = s.notices ∧ (k.pinned = true → m.pinned = true ∨ pinnedCount s < 48)

theorem claimOf_fits (s : State) (m : Met) (c : Command) : ClaimFits s m (claimOf s m c) := by
  have same (o : OutcomeCode) : ClaimFits s m (m.unchanged s o) := ⟨rfl, .inl⟩
  have moved (st : RecState) : ClaimFits s m (m.withState s st) := ⟨rfl, .inl⟩
  have keeping {k : Claimed} (hn : k.state.notices = s.notices) (hp : k.pinned = m.pinned) : ClaimFits s m k :=
    ⟨hn, fun h => .inl (hp ▸ h)⟩
  have unpinned {k : Claimed} (hn : k.state.notices = s.notices) (hp : k.pinned = false) : ClaimFits s m k :=
    ⟨hn, fun h => by rw [hp] at h; cases h⟩
  have refusals {a b d : Bool} {o1 o2 o3 : OutcomeCode} {k : Claimed} (hk : ClaimFits s m k) :
      ClaimFits s m
        (if a then m.unchanged s o1 else if b then m.unchanged s o2 else if d then m.unchanged s o3 else k) := by
    split
    · exact same _
    split
    · exact same _
    split
    · exact same _
    · exact hk
  unfold claimOf
  split
  · unfold claimAdmit
    exact refusals (keeping rfl rfl)
  split
  · unfold claimAmend
    refine refusals ?_
    split
    · exact same _
    · exact keeping rfl rfl
  split
  · unfold claimHold
    split
    · exact same _
    split
    · exact same _
    · split
      case h_1 => exact moved _
      all_goals exact same _
  split
  · unfold claimRelease
    split
    · exact same _
    split
    · exact same _
    · split
      case h_2 => exact moved _
      all_goals exact same _
  split
  · unfold claimRetire
    split
    · exact unpinned rfl rfl
    split
    · exact same _
    split
    · exact same _
    · exact unpinned rfl rfl
  split
  · exact keeping rfl rfl
  split
  · unfold claimPin
    split
    · exact same _
    split
    · exact same _
    split
    · exact same _
    split
    · exact same _
    split
    · exact ⟨rfl, fun _ => .inr (by assumption)⟩
    · exact same _
  split
  · unfold claimUnpin
    exact refusals (unpinned rfl rfl)
  · exact same _

/-- A current command completes: it stays outstanding, by its response (R162). -/
theorem answered_rooms {s : State} (h : s.engine.current.isSome = true) (c : Command) (o : OutcomeCode)
    (p : List Byte) : RoomsKept s (answered s c o p) where
  commands hs := by
    obtain ⟨d, hd⟩ := Option.isSome_iff_exists.1 h
    unfold answered outstanding at *
    split <;> simp_all [Engine.current] <;> omega
  notices := by unfold answered; split <;> exact id
  ingress := by unfold answered; split <;> exact id
  egress := by unfold answered; split <;> exact id
  table := by unfold answered; split <;> exact id
  pending := by unfold answered; split <;> exact id
  flight := by unfold answered; split <;> exact id
  pinned := by unfold answered; split <;> exact id

theorem answer_rooms {s : State} (h : s.engine.current.isSome = true) (c : Command) (o : OutcomeCode) :
    RoomsKept s (answer s c o) :=
  answer_eq_answered s c o ▸ answered_rooms h c o []

theorem complete_rooms {s : State} (h : s.engine.current.isSome = true) (c : Command) (o : OutcomeCode)
    (p : List Byte) : RoomsKept s (complete s c o p) :=
  complete_eq_answered s c o p ▸ answered_rooms h c o p

theorem claimCommand_rooms {s : State} (h : s.engine.current.isSome = true) {i : Fin 64} {m : Met} {n : Nat}
    {r : Record} {d f : Bool} (hl : lineAt s.lines i = .valid n r d f m.pinned) (c : Command) :
    RoomsKept s (claimCommand s i m d c) := by
  obtain ⟨hnotices, hpinned⟩ := claimOf_fits s m c
  obtain ⟨new, occupancy, owed, hstate⟩ := claimOf_frame s m c
  rw [claimCommand_eq]
  generalize claimOf s m c = k at *
  obtain ⟨t, q, p, o, payload⟩ := k
  dsimp only at *
  subst hstate
  have hclaimed : RoomsKept s { s with notices := s.notices ++ new, occupancy := occupancy, owedCount := owed } :=
    { notices := fun hs => (congrArg List.length hnotices).trans_le hs }
  refine (hclaimed.trans (setLine_rooms fun hp => ?_)).trans (answered_rooms (by exact h) _ _ _)
  exact (hpinned hp).imp_left fun hm => by rw [hl]; exact hm

/-- The cell of an evaluation fills the place it was given, or returns it (R129). -/
theorem settleCell_rooms {s : State} (h : s.egress.length < 16) (c : Cell) (v : Verdict) :
    RoomsKept s (settleCell s c v) := by
  cases v with
  | discard reason => exact { }
  | _ => exact { egress := fun _ => by simpa [settleCell] using h }

theorem claimCell_rooms {s : State} (hroom : s.egress.length < 16) {i : Fin 64} {m n : Nat} {r q : Record}
    {d f p d' : Bool} (hl : lineAt s.lines i = .valid m q d' f p) (c : Cell) :
    RoomsKept s (claimCell s i n r d p c) := by
  have hoffer := offerJudged_rooms s n (evaluate r (cellLabel c) s.now)
  obtain ⟨⟨new, occupancy, owed, hframe⟩, -⟩ := offerJudged_frame s n (evaluate r (cellLabel c) s.now)
  unfold claimCell
  dsimp only
  generalize offerJudged s n (evaluate r (cellLabel c) s.now) = offer at *
  obtain ⟨t, x⟩ := offer
  dsimp only at *
  subst hframe
  exact (hoffer.trans (setValid_rooms (by exact hl) id _ _ _ _)).trans (settleCell_rooms (by exact hroom) _ _)

/-! ### The Miss Table and the Pending Cell Store (R70, R78) -/

theorem length_updateEntry_le (t : List Entry) (n : Nat) (f : Entry → Option Entry) :
    (updateEntry t n f).length ≤ t.length := by
  induction t with
  | nil => exact le_rfl
  | cons e l ih =>
    rw [updateEntry]
    split
    · split <;> simp
    · simpa using ih

/-- Where the change gives no entry more than `k` cells beyond its own, no more than `k` slots are taken by it. -/
theorem cells_updateEntry_le {k : Nat} (t : List Entry) (n : Nat) {f : Entry → Option Entry}
    (hf : ∀ e e', f e = some e' → e'.cells ≤ e.cells + k) :
    ((updateEntry t n f).map Entry.cells).sum ≤ (t.map Entry.cells).sum + k := by
  induction t with
  | nil => exact Nat.zero_le _
  | cons e l ih =>
    rw [updateEntry]
    split
    · split
      · rename_i e' he
        have := hf e e' he
        simp only [List.map_cons, List.sum_cons]
        omega
      · simp only [List.map_cons, List.sum_cons]
        omega
    · simp only [List.map_cons, List.sum_cons]
      omega

/-- How many slots of the Pending Cell Store a waiter takes (R78). -/
def slots : Waiter → Nat
  | .cell _ => 1
  | .command _ => 0

theorem cells_nil (e : Entry) : { e with waiters := [] }.cells = 0 := rfl

theorem cells_cons (e : Entry) (w : Waiter) (ws : List Waiter) :
    { e with waiters := w :: ws }.cells = { e with waiters := ws }.cells + slots w := by
  cases w <;> simp [Entry.cells, slots]

theorem cells_append (e : Entry) (w : Waiter) : { e with waiters := e.waiters ++ [w] }.cells = e.cells + slots w := by
  cases w <;> simp [Entry.cells, slots]

theorem cells_tail_le (e : Entry) : { e with waiters := e.waiters.tail }.cells ≤ e.cells :=
  (List.tail_sublist e.waiters).countP_le

theorem cells_meetFault (e : Entry) : { e with waiters := e.waiters.map Waiter.meetFault }.cells = e.cells := by
  simp only [Entry.cells, List.countP_map]
  refine List.countP_congr fun w _ => ?_
  cases w <;> rfl

/-- A waiter joins an entry: a cell with a slot free, or a command (R75, R79). -/
theorem joinEntry_rooms {s : State} {w : Waiter} (h : pendingTaken s + slots w ≤ 32) (n : Nat) :
    RoomsKept s { s with missTable := joinEntry s.missTable n w } where
  table hs := (length_updateEntry_le _ _ _).trans hs
  pending _ := by
    refine (cells_updateEntry_le _ _ fun e e' he => ?_).trans h
    cases he
    exact (cells_append e w).le

theorem popWaiter_rooms (s : State) (n : Nat) : RoomsKept s { s with missTable := popWaiter s.missTable n } where
  table hs := (length_updateEntry_le _ _ _).trans hs
  pending hs := by
    refine (cells_updateEntry_le (k := 0) _ _ fun e e' he => ?_).trans hs
    split at he <;> cases he
    exact cells_tail_le e

/-- An entry is opened where the Miss Table has room, with a command or, where a slot is free, a cell; its target line
is not pinned (R67, R71, R76). -/
theorem tryOpen_rooms {s t : State} {n : Nat} {w : Waiter}
    (hslots : pendingTaken s ≤ 32 → pendingTaken s + slots w ≤ 32) (h : tryOpen s n w = some t) : RoomsKept s t := by
  obtain ⟨hroom, hopen⟩ := tryOpen_eq h
  obtain ⟨v, hv, rfl⟩ := openEntry_eq hopen
  obtain ⟨hafter, -, hothers⟩ := selectVictim_some hv
  refine { table := fun _ => ?_, pending := fun hs => ?_, pinned := fun hs => ?_ }
  · rw [List.length_append]
    exact hroom
  · refine le_trans (le_of_eq ?_) (hslots hs)
    cases w <;> simp [pendingTaken, Entry.cells, slots]
  · refine (pinnedCount_le fun i hi => ?_).trans hs
    by_cases hiv : i = v.target
    · subst hiv
      obtain ⟨h1, -⟩ | ⟨old, r, h1, -⟩ := hafter <;> rw [h1] at hi <;> cases hi
    · rcases hothers i hiv with e | e <;> rw [e] at hi
      · exact hi
      · cases hl : lineAt s.lines i <;> rw [hl] at hi <;> exact hi

theorem serveCommand_rooms (s : State) (n : Nat) : RoomsKept s (serveCommand s n) := by
  unfold serveCommand
  split
  · exact .refl s
  · split
    · rename_i hl he
      refine (popWaiter_rooms s n).trans (claimCommand_rooms ?_ (by exact hl) _)
      simp [he, Engine.current]
    · exact .refl s

theorem serveCell_rooms {s : State} (hroom : egressRoom s = true) (n : Nat) : RoomsKept s (serveCell s n) := by
  have hroom : s.egress.length < 16 := by simpa [egressRoom] using hroom
  unfold serveCell
  split
  · exact .refl s
  · split
    · rename_i hl
      exact ((popWaiter_rooms s n).trans (claimCell_rooms (by exact hroom) (by exact hl) _)).trans
        (serveCommand_rooms _ n)
    · exact .refl s

/-! ### The answers to requesters (R66) -/

theorem overflowCell_rooms (s : State) (c : Cell) (n : Nat) : RoomsKept s (overflowCell s c n) := by
  unfold overflowCell
  split <;> exact { }

theorem offerCell_rooms (s : State) (c : Cell) (n : Nat) : RoomsKept s (offerCell s c n) := by
  have room (h : slotFree s = true) : pendingTaken s + slots (.cell c) ≤ 32 := of_decide_eq_true h
  unfold offerCell
  split
  · split
    · exact (joinEntry_rooms (room (by assumption)) n).trans { }
    · exact { }
  · exact { }
  · split
    · rename_i hfree
      split
      · rename_i t ht
        exact (tryOpen_rooms (fun _ => room hfree) ht).trans { }
      · exact overflowCell_rooms s c n
    · exact overflowCell_rooms s c n

theorem headLeft_rooms (s : State) (c : Cell) : RoomsKept s (headLeft s c) := by
  have unadmitted (reason : Discard) (number : Option Nat) : RoomsKept s (unadmittedCell s c reason number) := by
    unfold unadmittedCell
    split <;> exact { }
  unfold headLeft
  split
  · unfold classifyCell
    split
    · exact unadmitted _ _
    · split
      · exact offerCell_rooms s c _
      · exact unadmitted _ _
  · exact { }

theorem grantStage_rooms {s : State} (hroom : egressRoom s = true) : RoomsKept s (grantStage s) := by
  have hroom : s.egress.length < 16 := by simpa [egressRoom] using hroom
  unfold grantStage
  split
  · exact .refl s
  · exact { egress := fun _ => by simpa using hroom }
  · split
    · split
      · rename_i hl
        have hhit : RoomsKept s (countHit { s with stage := none }) := { }
        exact hhit.trans (claimCell_rooms (by exact hroom) (by exact hl) _)
      · exact .refl s
    · exact offerCell_rooms s _ _

/-- The Maintenance Engine comes to wait with the current command. -/
theorem setEngine_rooms {s : State} (h : s.engine.current.isSome = true) {e : Engine} {c : Command}
    (he : e.current = some c) : RoomsKept s { s with engine := e } where
  commands hs := by
    obtain ⟨d, hd⟩ := Option.isSome_iff_exists.1 h
    refine le_trans (le_of_eq ?_) hs
    simp [outstanding, he, hd]

theorem recordStep_rooms {s : State} (h : s.engine.current.isSome = true) (c : Command) (n : Nat) :
    RoomsKept s (recordStep s c n) := by
  unfold recordStep
  split
  · refine (RoomsKept.trans (t := { s with missTable := joinEntry s.missTable n (.command false) }) ?_
      (setEngine_rooms (by exact h) (e := .waitingOnEntry c) rfl))
    exact { table := fun hs => (length_updateEntry_le _ _ _).trans hs
            pending := fun hs => (joinEntry_rooms (w := .command false) hs n).pending hs }
  · split
    · rename_i hl
      have hhit : RoomsKept s (countHit s) := { }
      exact hhit.trans (claimCommand_rooms (by exact h) (by exact hl) c)
    · exact .refl s
  · split
    · rename_i t ht
      have hengine : t.engine = s.engine := by
        obtain ⟨v, -, rfl⟩ := openEntry_eq (tryOpen_eq ht).2
        rfl
      exact (tryOpen_rooms id ht).trans (setEngine_rooms (hengine ▸ h) rfl)
    · exact setEngine_rooms h rfl

theorem recordCommand_rooms {s : State} (h : s.engine.current.isSome = true) (c : Command) (o : Option OutcomeCode) :
    RoomsKept s (recordCommand s c o) := by
  unfold recordCommand
  split
  · split
    · split
      · exact answer_rooms h _ _
      · exact recordStep_rooms h _ _
    · exact answer_rooms h _ _
  · exact answer_rooms h _ _

/-! ### Sweep steps (R102 to R108) -/

theorem engineClaim_rooms (s : State) : RoomsKept s (engineClaim s) := by
  unfold engineClaim
  split
  · exact .refl s
  · unfold engineStep
    split
    · rename_i he
      split
      · exact recordCommand_rooms (by rw [he]; rfl) _ _
      · exact .refl s
    · rename_i he
      exact recordStep_rooms (by rw [he]; rfl) _ _
    · exact .refl s

theorem claimsWithin_rooms (k : Nat) (s : State) : RoomsKept s (claimsWithin k s) := by
  induction k generalizing s with
  | zero => exact .refl s
  | succ k ih => exact (engineClaim_rooms s).trans (ih _)

theorem visitLine_rooms (v : VisitEvents) (s : State) (i : Fin 64) : RoomsKept s (visitLine v s i) := by
  unfold visitLine
  split
  · rename_i n r d f p hl
    have hvisit := visitActions_rooms v s n r
    obtain ⟨j, new, out, responses, notices, occupancy, owed, -, hframe⟩ := visitActions_frame v s n r
    dsimp only
    generalize visitActions v s n r = visit at *
    obtain ⟨t, q⟩ := visit
    dsimp only at *
    subst hframe
    exact hvisit.trans (setValid_rooms (by exact hl) (fun hp => by rw [Bool.and_eq_true] at hp; exact hp.1) _ _ _ _)
  · exact .refl s

theorem beginVisit_rooms (v : VisitEvents) (s : State) : RoomsKept s (beginVisit v s) := by
  unfold beginVisit
  split
  · exact .refl s
  · rename_i n _
    have hpos : RoomsKept s { s with sweepPos := n } := { }
    dsimp only
    split
    · exact hpos
    · exact (hpos.trans (claimsWithin_rooms _ _)).trans (visitLine_rooms v _ _)
    · exact hpos
    · exact hpos
    · exact hpos.trans { }

theorem takeDueStep_rooms (v : VisitEvents) (s : State) : RoomsKept s (takeDueStep v s) := by
  have hzero : RoomsKept s { s with interval := 0 } := { }
  unfold takeDueStep takeSweepStep
  split
  · exact hzero.trans { }
  · exact hzero.trans (beginVisit_rooms v _)

/-! ### The memory path (R83) -/

theorem issueNext_rooms {s : State} (h : s.inFlight.length < 4) : RoomsKept s (issueNext s) := by
  have flown (t : State) (x : Txn) (ht : RoomsKept s t) (hf : t.inFlight = s.inFlight) : RoomsKept s (fly t x) :=
    ht.trans { flight := fun _ => by simpa [hf] using h }
  unfold issueNext
  repeat' split
  all_goals first | exact .refl s | exact flown _ _ { } rfl

/-- A transaction completes: it is in flight no longer. -/
theorem landed_rooms {s : State} {x : Txn} {rest : List Txn} (h : s.inFlight = x :: rest) :
    RoomsKept s { s with inFlight := rest } where
  flight hs := by
    rw [h, List.length_cons] at hs
    exact (Nat.le_succ _).trans hs

theorem advancePhase_rooms (s : State) (n : Nat) (ph : Phase) :
    RoomsKept s { s with missTable := advancePhase s.missTable n ph } where
  table hs := by
    show (advancePhase s.missTable n ph).length ≤ 8
    rw [advancePhase, List.length_map]
    exact hs
  pending hs := by
    refine le_trans (le_of_eq (congrArg List.sum ?_)) hs
    rw [advancePhase, List.map_map]
    refine List.map_congr_left fun e _ => ?_
    simp only [Function.comp_apply]
    split <;> rfl

theorem requestCache_rooms (s : State) (q : List CacheReq) : RoomsKept s (requestCache s q) := { }

theorem writeImage_rooms (s : State) (n : Nat) (r : Record) : RoomsKept s (writeImage s n r) := { }

/-- A write-back's image is written and counted (R84). -/
theorem writtenBack_rooms (s : State) (n : Nat) (r : Record) : RoomsKept s (countWriteBack (writeImage s n r)) := by
  have counted (t : State) : RoomsKept t (countWriteBack t) := { }
  exact (writeImage_rooms s n r).trans (counted _)

theorem evictionWritten_rooms (s : State) (i : Fin 64) (old : Nat) (copy : Record) (reserved : Nat) :
    RoomsKept s (evictionWritten s i old copy reserved) := by
  have hset : RoomsKept s ((countWriteBack (writeImage s old copy)).setLine i (.filling reserved)) :=
    (writtenBack_rooms s old copy).trans (setLine_rooms fun h => by cases h)
  exact (hset.trans (advancePhase_rooms _ old .waitEvict)).trans (requestCache_rooms _ _)

theorem emptyLines_rooms (s : State) (k : Nat) : RoomsKept s (emptyLines s k) where
  pinned hs := (pinnedCount_le fun i hi => by
    rw [Laws.State.emptyLines_lines, lineAt_replicate] at hi
    cases hi).trans hs

theorem restartWritten_rooms {s : State} {i : Fin 64} {n : Nat} {copy : Record} {d f p : Bool}
    (hl : lineAt s.lines i = .valid n copy d f p) (requested : Nat) :
    RoomsKept s (restartWritten s i n copy f p requested) := by
  have hset : RoomsKept s ((countWriteBack (writeImage s n copy)).setLine i (.valid n copy false f p)) :=
    (writtenBack_rooms s n copy).trans (setValid_rooms (by exact hl) id _ _ _ _)
  unfold restartWritten
  dsimp only
  split
  · exact hset.trans (emptyLines_rooms _ _)
  · exact hset

theorem readImage_rooms (s : State) (n : Nat) (source : FaultSource) (vacant : Bool) (damage : Damage) :
    RoomsKept s (readImage s n source vacant damage).1 := { }

theorem filled_rooms (s : State) (n : Nat) (i : Fin 64) (damage : Damage) : RoomsKept s (filled s n i damage) := by
  have hread := (readImage_rooms s n .fill (!occupied s n) damage).trans
    (offerFaulted_rooms _ n (readImage s n .fill (!occupied s n) damage).2)
  have marked (t : State) (f : Formed) :
      RoomsKept t { t with missTable := updateEntry t.missTable n fun e => some (filledEntry f e) } :=
    { table := fun hs => (length_updateEntry_le _ _ _).trans hs
      pending := fun hs => by
        refine (cells_updateEntry_le (k := 0) _ _ fun e e' he => ?_).trans hs
        cases he
        unfold filledEntry
        split
        · exact (cells_meetFault e).le
        · exact le_rfl }
  exact ((hread.trans (setLine_rooms (i := i) (l := .valid n _ _ false false) fun h => by cases h)).trans
    (marked _ _)).trans (serveCommand_rooms _ n)

theorem sweepVisited_rooms (s : State) (n : Nat) (damage : Damage) (v : VisitEvents) :
    RoomsKept s (sweepVisited s n damage v) := by
  have hread := (readImage_rooms s n .sweep false damage).trans
    (offerFaulted_rooms _ n (readImage s n .sweep false damage).2)
  exact (hread.trans (visitActions_rooms v _ n _)).trans { }

theorem sweepWritten_rooms (s : State) (n : Nat) (copy : Record) (v : VisitEvents) :
    RoomsKept s (sweepWritten s n copy v) := by
  have hreleased : RoomsKept s (released s n copy) :=
    (advancePhase_rooms s n .waitSweep).trans { }
  rw [sweepWritten_eq]
  split
  · exact (hreleased.trans { }).trans (beginVisit_rooms v _)
  · exact hreleased

theorem requestWriteBacks_rooms (s : State) : RoomsKept s (requestWriteBacks s) := by
  unfold requestWriteBacks
  split
  · exact emptyLines_rooms s 0
  · exact { }

/-! ### The device-wide operations (R98 to R100, R172, R178) -/

theorem completeOperation_rooms (s : State) (p : List Byte) : RoomsKept s (completeOperation s p) := by
  unfold completeOperation
  split
  · rename_i he
    exact complete_rooms (by rw [he]; rfl) _ _ _
  · exact .refl s

theorem formatWritten_rooms (s : State) (n : Nat) : RoomsKept s (formatWritten s n) := by
  have hwritten := writeImage_rooms s n Record.blank
  unfold formatWritten endFormat
  dsimp only
  split
  · refine .trans ?_ (completeOperation_rooms _ _)
    exact hwritten.trans { }
  · exact hwritten

theorem finishResume_rooms (s : State) : RoomsKept s (finishResume s) := by
  obtain e | ⟨⟨p, e⟩, -⟩ := finishResume_cases s <;> rw [e]
  · exact .refl s
  · exact RoomsKept.trans (t := enterRunning s) { } (completeOperation_rooms _ p)

theorem resumeJudged_rooms (s : State) (n next : Nat) (counts : StateCounts) (writes : List (Nat × Record))
    (damage : Damage) : RoomsKept s (resumeJudged s n next counts writes damage) := by
  have hread := (readImage_rooms s n .resume false damage).trans
    (offerFaulted_rooms _ n (readImage s n .resume false damage).2)
  exact (hread.trans { }).trans (finishResume_rooms _)

theorem endRestart_rooms (s : State) (requested : Nat) : RoomsKept s (endRestart s requested) :=
  RoomsKept.trans { } (completeOperation_rooms _ _)

theorem resetDevice_bounded (s : State) (asserted linkWaits : Bool) (m : Memory) :
    Bounded { resetDevice s asserted linkWaits with memory := m } := by
  refine ⟨Nat.zero_le _, Nat.zero_le _, Nat.zero_le _, Nat.zero_le _, Nat.zero_le _, Nat.zero_le _, Nat.zero_le _, ?_⟩
  rw [pinnedCount_eq, List.countP_eq_zero.2]
  · exact Nat.zero_le _
  · intro i _
    show ¬(lineAt (Vector.replicate 64 .empty) i).pinned = true
    rw [lineAt_replicate]
    decide

/-! ### The cell ports and the management link (R126, R127, R161, R162) -/

/-- A start-of-cell byte takes a place only where ingress-ready is asserted. -/
theorem startOfCell_rooms (s : State) (first : Byte) :
    RoomsKept s { s with transfer := if ingressReady s then some first else none } where
  ingress hs := by
    by_cases hready : ingressReady s = true
    · have hlt : ingressTaken s < 16 := of_decide_eq_true (Bool.and_eq_true_iff.1 hready).2
      unfold ingressTaken at hlt ⊢
      simp only [hready, if_true, Option.toList_some, List.length_singleton]
      omega
    · unfold ingressTaken at hs ⊢
      simp only [hready, if_false, Option.toList_none, List.length_nil, Bool.false_eq_true]
      omega

theorem cellAccepted_rooms {s : State} {first : Byte} (h : s.transfer = some first) (c : Cell) (p : PortCounters)
    (k : Nat) :
    RoomsKept s { s with transfer := none, ingress := s.ingress ++ [c], ports := p, cellsInside := k } where
  ingress hs := by simpa [ingressTaken, h] using hs

theorem takeNext_rooms (s : State) : RoomsKept s (takeNext s) := by
  unfold takeNext
  split
  · rename_i he hq
    refine { commands := fun hs => le_trans (le_of_eq ?_) hs }
    simp [outstanding, he, hq, Engine.current]
  · exact .refl s

theorem readResponse_rooms (s : State) (entered more : Nat) : RoomsKept s (readResponse s entered more) := by
  unfold readResponse
  split
  · exact .refl s
  · refine { commands := fun hs => ?_ }
    unfold outstanding at hs ⊢
    show s.cmdQueue.length + s.engine.current.toList.length + (if _ then s.responses else s.responses.tail).length ≤ 8
    split
    · exact hs
    · rw [List.length_tail]
      omega

/-- A command accepted was not the ninth (R161, R162). -/
theorem accepted_outstanding {s : State} {tag code : Byte} {params : List Byte} {check : BitVec 16}
    (h : acceptance s tag code params check = .accepted) : outstanding s < 8 := by
  unfold acceptance at h
  by_contra hfull
  have hlimit : Config.outstandingLimit ≤ outstanding s := Nat.le_of_not_lt hfull
  rw [if_pos hlimit] at h
  repeat' split at h
  all_goals cases h

theorem execCommand_rooms {tag code : Byte} {params : List Byte} {check : BitVec 16} {more : Nat} {s t : State}
    (h : execCommand tag code params check s more = .next t) : RoomsKept s t := by
  refine onLink_elim h (.refl s) ?_
  split
  · exact .refl s
  · dsimp only
    split
    · rename_i haccepted
      have hlt := accepted_outstanding haccepted
      refine .trans { commands := fun _ => ?_ } (takeNext_rooms _)
      unfold outstanding at hlt ⊢
      simp only [linkEnded, List.length_append, List.length_singleton]
      omega
    · exact { }

theorem execTransactionAbandon_rooms {what : Abandoned} {s t : State}
    (h : execTransactionAbandon what s = .next t) : RoomsKept s t := by
  cases h
  split
  · exact .refl s
  · split
    · exact { }
    · split <;> exact { }

/-! ### The commands that name no record -/

theorem setupEffect_rooms {s : State} (h : s.engine.current.isSome = true) (c : Command) :
    RoomsKept s (setupEffect s c) := by
  unfold setupEffect
  split
  · split
    · exact answer_rooms h _ _
    · split
      · exact .trans { } (answer_rooms (by exact h) _ _)
      · exact answer_rooms h _ _
  · exact answer_rooms h _ _

theorem ruleWriteEffect_rooms {s : State} (h : s.engine.current.isSome = true) (c : Command) :
    RoomsKept s (ruleWriteEffect s c) := by
  unfold ruleWriteEffect
  split
  · split
    · split
      · exact .trans { } (answer_rooms (by exact h) _ _)
      · exact answer_rooms h _ _
    · exact answer_rooms h _ _
  · exact answer_rooms h _ _

theorem ruleReadEffect_rooms {s : State} (h : s.engine.current.isSome = true) (c : Command) :
    RoomsKept s (ruleReadEffect s c) := by
  unfold ruleReadEffect
  split
  · split
    · exact complete_rooms h _ _ _
    · exact answer_rooms h _ _
  · exact answer_rooms h _ _

theorem statusEffect_rooms {s : State} (h : s.engine.current.isSome = true) (c : Command) :
    RoomsKept s (statusEffect s c) := by
  unfold statusEffect
  split
  · exact complete_rooms h _ _ _
  · exact answer_rooms h _ _

/-- A command that begins an operation stays the current one. -/
theorem begun_rooms {s : State} (h : s.engine.current.isSome = true) (c : Command) (d : DeviceState) (p : Pass)
    (k : Nat) (r : RestartPhase) (remembered : Bool) :
    RoomsKept s
      { s with
        device := d, pass := p, owedCount := k, restart := r, remembered := remembered, engine := .inOperation c } :=
  (setEngine_rooms h rfl).trans { }

theorem formatEffect_rooms {s : State} (h : s.engine.current.isSome = true) (c : Command) :
    RoomsKept s (formatEffect s c) := by
  unfold formatEffect
  split
  · exact begun_rooms h c _ _ _ _ _
  · exact answer_rooms h _ _

theorem resumeEffect_rooms {s : State} (h : s.engine.current.isSome = true) (c : Command) :
    RoomsKept s (resumeEffect s c) := by
  unfold resumeEffect
  split
  · exact begun_rooms h c _ _ _ _ _
  · exact answer_rooms h _ _

theorem restartEffect_rooms {s : State} (h : s.engine.current.isSome = true) (c : Command) :
    RoomsKept s (restartEffect s c) := by
  unfold restartEffect
  split
  · exact begun_rooms h c _ _ _ _ _
  · exact answer_rooms h _ _

/-! ### Every event -/

/-- The row of a command: its effect is taken with the command current. -/
theorem onCurrent_rooms {s t : State} {code : Byte} {f : Command → State} (h : onCurrent s code f = .next t)
    (hf : ∀ c, s.engine.current.isSome = true → RoomsKept s (f c)) : RoomsKept s t :=
  onCurrent_elim h (.refl s) fun c he _ => hf c (by rw [he]; rfl)

theorem execWriteBackComplete_rooms {s t : State} (h : execWriteBackComplete s = .next t) : RoomsKept s t := by
  unfold execWriteBackComplete at h
  split at h
  · rename_i hflight
    have taken := landed_rooms hflight
    split at h
    · exact completing_elim h (.refl s) (taken.trans (evictionWritten_rooms _ _ _ _ _))
    · rename_i hl _
      exact completing_elim h (.refl s) (taken.trans (restartWritten_rooms (by exact hl) _))
    · cases h
      exact .refl s
  · cases h
    exact .refl s

theorem execFillReadComplete_rooms {damage : Damage} {s t : State} (h : execFillReadComplete damage s = .next t) :
    RoomsKept s t := by
  unfold execFillReadComplete at h
  split at h
  · rename_i hflight
    split at h
    · exact completing_elim h (.refl s) ((landed_rooms hflight).trans (filled_rooms _ _ _ damage))
    · cases h
      exact .refl s
  · cases h
    exact .refl s

theorem execSweepReadComplete_rooms {damage : Damage} {during : VisitEvents} {s t : State}
    (h : execSweepReadComplete damage s during = .next t) : RoomsKept s t := by
  unfold execSweepReadComplete at h
  split at h
  · rename_i hflight
    exact completing_elim h (.refl s) ((landed_rooms hflight).trans (sweepVisited_rooms _ _ damage during))
  · cases h
    exact .refl s

theorem execSweepWriteComplete_rooms {during : VisitEvents} {s t : State}
    (h : execSweepWriteComplete s during = .next t) : RoomsKept s t := by
  unfold execSweepWriteComplete at h
  split at h
  · rename_i hflight _
    exact completing_elim h (.refl s) ((landed_rooms hflight).trans (sweepWritten_rooms _ _ _ during))
  · cases h
    exact .refl s

theorem execFormatWriteComplete_rooms {s t : State} (h : execFormatWriteComplete s = .next t) : RoomsKept s t := by
  unfold execFormatWriteComplete at h
  split at h
  · rename_i hflight _
    exact completing_elim h (.refl s) ((landed_rooms hflight).trans (formatWritten_rooms _ _))
  · cases h
    exact .refl s

theorem execResumeReadComplete_rooms {damage : Damage} {s t : State}
    (h : execResumeReadComplete damage s = .next t) : RoomsKept s t := by
  unfold execResumeReadComplete at h
  split at h
  · rename_i hflight _
    exact completing_elim h (.refl s) ((landed_rooms hflight).trans (resumeJudged_rooms _ _ _ _ _ damage))
  · cases h
    exact .refl s

theorem execResumeWriteComplete_rooms {s t : State} (h : execResumeWriteComplete s = .next t) : RoomsKept s t := by
  unfold execResumeWriteComplete at h
  split at h
  · rename_i hflight
    exact completing_elim h (.refl s)
      (((landed_rooms hflight).trans (writeImage_rooms _ _ _)).trans (finishResume_rooms _))
  · cases h
    exact .refl s

theorem exec_rooms {c : Instr} {s t : State} (h : exec c s = .next t) : RoomsKept s t := by
  cases c with
  | powerOn low sram errors =>
    cases h
    exact .of_bounded (resetDevice_bounded s false low _) s
  | resetPinAssert words =>
    cases h
    split
    · exact .refl s
    · exact .of_bounded (resetDevice_bounded s true false _) s
  | resetPinDeassert low =>
    cases h
    split
    · exact .of_bounded (resetDevice_bounded s false low s.memory) s
    · exact .refl s
  | tick =>
    refine whileRunning_elim h (.refl s) ?_
    split
    · exact (takeDueStep_rooms _ s).trans { }
    · exact { }
  | sweepStep during =>
    refine whileRunning_elim h (.refl s) ?_
    split
    · exact takeDueStep_rooms _ s
    · exact .refl s
  | ingressTransferBegin first => exact whileRunning_elim h (.refl s) (startOfCell_rooms s first)
  | partialCellDropped first =>
    refine whileRunning_elim h (.refl s) ?_
    split
    · exact .refl s
    · exact startOfCell_rooms s first
  | cellAccept rest =>
    refine whileRunning_elim h (.refl s) ?_
    split
    · exact .refl s
    · exact cellAccepted_rooms (by assumption) _ _ _
  | ingressHeadLeaves =>
    refine whileRunning_elim h (.refl s) ?_
    split
    · rename_i cell rest _ _ hhead
      have left : RoomsKept s { s with ingress := rest } :=
        { ingress := fun hs => by
            unfold ingressTaken at hs ⊢
            rw [hhead, List.length_cons] at hs
            dsimp only
            omega }
      exact left.trans (headLeft_rooms _ cell)
    · exact .refl s
  | egressPlaceGrant requester =>
    refine whileRunning_elim h (.refl s) ?_
    split
    · split
      · exact grantStage_rooms (by assumption)
      · exact serveCell_rooms (by assumption) _
    · exact .refl s
  | cellEmit =>
    refine whileRunning_elim h (.refl s) ?_
    split
    · exact .refl s
    · rename_i hhead
      refine { egress := fun hs => ?_ }
      rw [hhead, List.length_cons] at hs
      exact (Nat.le_succ _).trans hs
  | memoryIssue =>
    refine whileRunning_elim h (.refl s) ?_
    split
    · exact issueNext_rooms (by assumption)
    · exact .refl s
  | writeBackComplete => exact execWriteBackComplete_rooms h
  | fillReadComplete damage => exact execFillReadComplete_rooms h
  | sweepReadComplete damage during => exact execSweepReadComplete_rooms h
  | sweepWriteComplete during => exact execSweepWriteComplete_rooms h
  | formatWriteComplete => exact execFormatWriteComplete_rooms h
  | resumeReadComplete damage => exact execResumeReadComplete_rooms h
  | resumeWriteComplete => exact execResumeWriteComplete_rooms h
  | restartWriteBackRequest =>
    refine whileRunning_elim h (.refl s) ?_
    split
    · exact requestWriteBacks_rooms s
    · exact .refl s
  | restartComplete =>
    refine whileRunning_elim h (.refl s) ?_
    split
    · exact endRestart_rooms s _
    · exact .refl s
  | command tag code params check more => exact execCommand_rooms h
  | responseRead entered more => exact onLink_elim h (.refl s) (readResponse_rooms s _ _)
  | noticeRead entered more => exact onLink_elim h (.refl s) (readNotice_rooms s _ _)
  | linkStatus more => exact onLink_elim h (.refl s) { }
  | voidTransaction first more =>
    refine onLink_elim h (.refl s) ?_
    split
    · exact .refl s
    · exact { }
  | transactionAbandon what => exact execTransactionAbandon_rooms h
  | setup => exact onCurrent_rooms h fun c hc => setupEffect_rooms hc c
  | format => exact onCurrent_rooms h fun c hc => formatEffect_rooms hc c
  | resume => exact onCurrent_rooms h fun c hc => resumeEffect_rooms hc c
  | restart => exact onCurrent_rooms h fun c hc => restartEffect_rooms hc c
  | status => exact onCurrent_rooms h fun c hc => statusEffect_rooms hc c
  | ruleWrite => exact onCurrent_rooms h fun c hc => ruleWriteEffect_rooms hc c
  | ruleRead => exact onCurrent_rooms h fun c hc => ruleReadEffect_rooms hc c
  | admitRecord => exact onCurrent_rooms h fun c hc => recordCommand_rooms hc c _
  | amend => exact onCurrent_rooms h fun c hc => recordCommand_rooms hc c _
  | hold => exact onCurrent_rooms h fun c hc => recordCommand_rooms hc c _
  | release => exact onCurrent_rooms h fun c hc => recordCommand_rooms hc c _
  | retire => exact onCurrent_rooms h fun c hc => recordCommand_rooms hc c _
  | query => exact onCurrent_rooms h fun c hc => recordCommand_rooms hc c _
  | pin => exact onCurrent_rooms h fun c hc => recordCommand_rooms hc c _
  | unpin => exact onCurrent_rooms h fun c hc => recordCommand_rooms hc c _
  | commandStepRetry =>
    refine whileRunning_elim h (.refl s) ?_
    split
    · rename_i he
      exact recordStep_rooms (by rw [he]; rfl) _ _
    · exact .refl s

/-- Settles O50: each event, and so each step, keeps every room (`exec_rooms`). -/
theorem roomsAreKept : Obligations.RoomsAreKept := by
  unfold Obligations.RoomsAreKept
  intro s t hs h
  unfold step at h
  split at h
  · cases h
    exact hs
  · exact (RoomsKept.trans { } (exec_rooms h)).bounded hs

end Sys2Proof.Proofs

/-! SUPPORT. Victim selection (R67): what the second-chance scan passes over, what it leaves, and where it stops. -/

namespace Sys2Proof.Proofs

open Sys2Proof Sys2Proof.Machine Sys2Proof.Safety Sys2Proof.Laws

/-! ### Lines in the order of the scan -/

theorem past_zero (i : Fin 64) : past i 0 = i := by
  rw [past, Fin.ofNat_zero, add_zero]

theorem past_nextLine (i : Fin 64) (k : Nat) : past (nextLine i) k = past i (k + 1) := by
  apply Fin.ext
  simp only [past, nextLine, Fin.val_add, Fin.ofNat]
  simp
  omega

theorem nextLine_past (i : Fin 64) (k : Nat) : nextLine (past i k) = past i (k + 1) := by
  apply Fin.ext
  simp [past, nextLine, Fin.val_add, Fin.ofNat, Nat.add_assoc]

theorem past_last (i : Fin 64) : past i 64 = i := by
  apply Fin.ext
  simp [past, Fin.ofNat]

theorem past_injective {i : Fin 64} {j k : Nat} (hj : j < 64) (hk : k < 64) (h : past i j = past i k) : j = k := by
  have hv := congrArg Fin.val h
  simp only [past, Fin.val_add, Fin.ofNat] at hv
  omega

/-- Every line lies some number of places past the hand. -/
theorem exists_past (i j : Fin 64) : ∃ k, k < 64 ∧ j = past i k := by
  refine ⟨(j - i).val, (j - i).isLt, ?_⟩
  rw [past, Fin.ofNat_val_eq_self, add_sub_cancel]

/-! ### One line of the scan -/

/-- The scan stops at the line: it may be chosen, and its referenced flag is clear. -/
def stops (t : List Entry) (l : Line) (i : Fin 64) : Bool := choosable t l i && !referenced l

/-- What the scan leaves of a line that it passes over. -/
def passed (t : List Entry) (l : Line) (i : Fin 64) : Line := if choosable t l i then unreferenced l else l

theorem stops_of_choosable {t : List Entry} {l : Line} {i : Fin 64} (h : choosable t l i = true)
    (hl : referenced l = false) : stops t l i = true := by
  rw [stops, h, hl]
  rfl

theorem not_stops_of_not_choosable {t : List Entry} {l : Line} {i : Fin 64} (h : choosable t l i = false) :
    stops t l i = false := by
  rw [stops, h, Bool.false_and]

theorem not_stops_of_referenced {t : List Entry} {l : Line} {i : Fin 64}
    (h : choosable t l i = true → referenced l = true) : stops t l i = false := by
  cases hmay : choosable t l i with
  | false => exact not_stops_of_not_choosable hmay
  | true => rw [stops, h hmay, Bool.not_true, Bool.and_false]

theorem passed_of_choosable {t : List Entry} {l : Line} {i : Fin 64} (h : choosable t l i = true) :
    passed t l i = unreferenced l := if_pos h

theorem passed_of_not_choosable {t : List Entry} {l : Line} {i : Fin 64} (h : choosable t l i = false) :
    passed t l i = l := by
  rw [passed, h, if_neg Bool.false_ne_true]

theorem choosable_passed (t : List Entry) (l : Line) (i : Fin 64) :
    choosable t (passed t l i) i = choosable t l i := by
  unfold passed
  split
  · cases l <;> rfl
  · rfl

theorem choosable_valid {t : List Entry} {l : Line} {i : Fin 64} (h : choosable t l i = true) :
    ∃ n r d f, l = .valid n r d f false ∧ isTarget t i = false := by
  unfold choosable at h
  split at h
  · simp only [Bool.and_eq_true, Bool.not_eq_true'] at h
    obtain ⟨rfl, htarget⟩ := h
    exact ⟨_, _, _, _, rfl, htarget⟩
  · cases h

theorem set_lineAt (ls : Vector Line 64) (i : Fin 64) : ls.set i.val (lineAt ls i) i.isLt = ls :=
  Vector.set_getElem_self _

theorem scan_stops {t : List Entry} {i : Fin 64} {ls : Vector Line 64} (h : stops t (lineAt ls i) i = true)
    (fuel : Nat) : scan t (fuel + 1) i ls = some (i, ls) := by
  obtain ⟨hmay, hclear⟩ := Bool.and_eq_true_iff.1 h
  obtain ⟨n, r, d, f, hl, htarget⟩ := choosable_valid hmay
  rw [hl] at hclear
  have hf : f = false := by simpa [referenced] using hclear
  simp [scan, hl, htarget, hf]

theorem scan_passes {t : List Entry} {i : Fin 64} {ls : Vector Line 64} (h : stops t (lineAt ls i) i = false)
    (fuel : Nat) :
    scan t (fuel + 1) i ls = scan t fuel (nextLine i) (ls.set i.val (passed t (lineAt ls i) i) i.isLt) := by
  cases hmay : choosable t (lineAt ls i) i with
  | true =>
    have href : referenced (lineAt ls i) = true := by simpa [stops, hmay] using h
    obtain ⟨n, r, d, f, hl, htarget⟩ := choosable_valid hmay
    rw [hl] at href
    have hf : f = true := href
    rw [passed_of_choosable hmay, hl]
    simp [scan, hl, htarget, hf, unreferenced]
  | false =>
    rw [passed_of_not_choosable hmay, set_lineAt]
    cases hl : lineAt ls i with
    | valid n r d f p =>
      have hskip : (p || isTarget t i) = true := by
        rw [hl] at hmay
        simpa [choosable, Bool.or_eq_true_iff, Classical.or_iff_not_imp_left] using hmay
      simp [scan, hl, hskip]
    | _ => simp [scan, hl]

/-! ### The scan over several lines -/

/-- The lines after the scan has passed over `k` of them from line `i` on. -/
def scanned (t : List Entry) : Nat → Fin 64 → Vector Line 64 → Vector Line 64
  | 0, _, ls => ls
  | k + 1, i, ls => scanned t k (nextLine i) (ls.set i.val (passed t (lineAt ls i) i) i.isLt)

theorem lineAt_scanned (t : List Entry) {k : Nat} (hk : k ≤ 64) (i : Fin 64) (ls : Vector Line 64) (m : Fin 64) :
    lineAt (scanned t k i ls) m =
      if ∃ j, j < k ∧ m = past i j then passed t (lineAt ls m) m else lineAt ls m := by
  induction k generalizing i ls with
  | zero => simp [scanned]
  | succ k ih =>
    have hnext : (∃ j, j < k + 1 ∧ m = past i j) ↔ m = i ∨ ∃ j, j < k ∧ m = past (nextLine i) j := by
      simp only [past_nextLine]
      constructor
      · rintro ⟨_ | j, hj, rfl⟩
        · exact .inl (past_zero i)
        · exact .inr ⟨j, by omega, rfl⟩
      · rintro (rfl | ⟨j, hj, rfl⟩)
        · exact ⟨0, by omega, (past_zero m).symm⟩
        · exact ⟨j + 1, by omega, rfl⟩
    have hapart : m = i → ¬∃ j, j < k ∧ m = past (nextLine i) j := by
      rintro rfl ⟨j, hj, he⟩
      rw [past_nextLine] at he
      have := past_injective (by omega) (by omega) ((past_zero m).trans he)
      omega
    rw [scanned, ih (by omega), lineAt_set]
    simp only [hnext]
    by_cases hm : m = i
    · rw [if_neg (hapart hm), if_pos hm, if_pos (.inl hm), hm]
    · simp [hm]

/-- The scan passes over `k` lines at none of which it stops. -/
theorem scan_skips {t : List Entry} {k : Nat} (hk : k ≤ 64) {i : Fin 64} {ls : Vector Line 64}
    (h : ∀ j, j < k → stops t (lineAt ls (past i j)) (past i j) = false) (fuel : Nat) :
    scan t (k + fuel) i ls = scan t fuel (past i k) (scanned t k i ls) := by
  induction k generalizing i ls with
  | zero => rw [Nat.zero_add, past_zero, scanned]
  | succ k ih =>
    have hfirst := h 0 (by omega)
    rw [past_zero] at hfirst
    rw [Nat.add_right_comm, scan_passes hfirst, ih (by omega) fun j hj => ?_, past_nextLine, scanned]
    have hne : past i (j + 1) ≠ i := fun he => by
      have := past_injective (by omega) (by omega) (he.trans (past_zero i).symm)
      omega
    rw [past_nextLine, lineAt_set, if_neg hne]
    exact h (j + 1) (by omega)

/-! ### Where the scan ends -/

/-- A first pass that stops: `k` lines past the hand is the first line that may be chosen and is unreferenced (R67). -/
theorem scan_first {t : List Entry} {i : Fin 64} {ls : Vector Line 64} {k : Nat} (hk : k < 64)
    (hstop : stops t (lineAt ls (past i k)) (past i k) = true)
    (hbefore : ∀ j, j < k → stops t (lineAt ls (past i j)) (past i j) = false) :
    scan t 128 i ls = some (past i k, scanned t k i ls) := by
  have hsame : lineAt (scanned t k i ls) (past i k) = lineAt ls (past i k) := by
    rw [lineAt_scanned t hk.le, if_neg]
    rintro ⟨j, hj, he⟩
    have := past_injective hk (by omega) he
    omega
  have hfuel : 128 = k + ((127 - k) + 1) := by omega
  rw [hfuel, scan_skips hk.le hbefore, scan_stops (by rw [hsame]; exact hstop)]

/-- A first pass that stops nowhere: every line that may be chosen is unreferenced after it, and the second pass stops
at the first of them (R67, R68). -/
theorem scan_second {t : List Entry} {i : Fin 64} {ls : Vector Line 64} {k : Nat} (hk : k < 64)
    (hnone : ∀ m, stops t (lineAt ls m) m = false) (hmay : choosable t (lineAt ls (past i k)) (past i k) = true)
    (hbefore : ∀ j, j < k → choosable t (lineAt ls (past i j)) (past i j) = false) :
    scan t 128 i ls = some (past i k, scanned t k i (scanned t 64 i ls)) := by
  have hpassed (m : Fin 64) : lineAt (scanned t 64 i ls) m = passed t (lineAt ls m) m := by
    rw [lineAt_scanned t le_rfl, if_pos (exists_past i m)]
  have hsame : lineAt (scanned t k i (scanned t 64 i ls)) (past i k) = lineAt (scanned t 64 i ls) (past i k) := by
    rw [lineAt_scanned t hk.le, if_neg]
    rintro ⟨j, hj, he⟩
    have := past_injective hk (by omega) he
    omega
  have hfuel : 128 = 64 + (k + ((63 - k) + 1)) := by omega
  rw [hfuel, scan_skips le_rfl fun j _ => hnone _, past_last, scan_skips hk.le fun j hj => ?_, scan_stops]
  · rw [hsame, hpassed]
    refine stops_of_choosable ((choosable_passed _ _ _).trans hmay) ?_
    obtain ⟨n, r, d, f, hl, -⟩ := choosable_valid hmay
    rw [passed_of_choosable hmay, hl]
    rfl
  · rw [hpassed]
    exact not_stops_of_not_choosable ((choosable_passed _ _ _).trans (hbefore j hj))

/-- Where some line may be chosen, the scan ends on one within its two passes (R68). -/
theorem scan_isSome {t : List Entry} {ls : Vector Line 64} (i : Fin 64)
    (h : ∃ m, choosable t (lineAt ls m) m = true) : ∃ out, scan t 128 i ls = some out := by
  classical
  by_cases hstop : ∃ k, k < 64 ∧ stops t (lineAt ls (past i k)) (past i k) = true
  · obtain ⟨hk, hstops⟩ := Nat.find_spec hstop
    refine ⟨_, scan_first hk hstops fun j hj => ?_⟩
    simpa [hj.trans hk] using Nat.find_min hstop hj
  · have hmay : ∃ k, k < 64 ∧ choosable t (lineAt ls (past i k)) (past i k) = true := by
      obtain ⟨m, hm⟩ := h
      obtain ⟨k, hk, rfl⟩ := exists_past i m
      exact ⟨k, hk, hm⟩
    obtain ⟨hk, hchoosable⟩ := Nat.find_spec hmay
    refine ⟨_, scan_second hk (fun m => ?_) hchoosable fun j hj => ?_⟩
    · obtain ⟨k, hk, rfl⟩ := exists_past i m
      simpa using fun hs => hstop ⟨k, hk, hs⟩
    · simpa [hj.trans hk] using Nat.find_min hmay hj

/-! ### The line chosen -/

theorem isEmpty_iff_eq (l : Line) : l.isEmpty = true ↔ l = .empty := by
  cases l <;> simp [Line.isEmpty]

/-- Some line is EMPTY: the lowest of them is taken, and the hand stays (R67). -/
theorem selectVictim_of_empty {s : State} (n : Nat) {i : Fin 64} (hi : lineAt s.lines i = .empty)
    (hlow : ∀ j, j < i → lineAt s.lines j ≠ .empty) :
    selectVictim s n = some ⟨i, s.lines.set i.val (.filling n) i.isLt, s.hand, []⟩ := by
  have hfind : emptyLine s.lines = some i := by
    unfold emptyLine
    rw [List.find?_eq_some_iff_getElem]
    refine ⟨(isEmpty_iff_eq _).2 hi, i.val, by simp, by simp, fun j hj => ?_⟩
    simp only [List.getElem_finRange, Bool.not_eq_true', ← Bool.not_eq_true, isEmpty_iff_eq]
    exact hlow ⟨j, hj.trans i.isLt⟩ hj
  simp [selectVictim, hfind]

theorem emptyLine_none {ls : Vector Line 64} (h : ∀ i, lineAt ls i ≠ .empty) : emptyLine ls = none :=
  List.find?_eq_none.2 fun i _ hi => h i ((isEmpty_iff_eq _).1 hi)

/-- No line is EMPTY: the line where the scan stops is reserved for the record, and a dirty copy is to be written back
(R67). -/
theorem selectVictim_of_scan {s : State} (n : Nat) (hne : ∀ i, lineAt s.lines i ≠ .empty) {i : Fin 64}
    {ls : Vector Line 64} (hscan : scan s.missTable 128 s.hand s.lines = some (i, ls)) {old : Nat} {r : Record}
    {d f p : Bool} (hl : lineAt ls i = .valid old r d f p) :
    selectVictim s n =
      some ⟨i, ls.set i.val (if d then .evicting old r n else .filling n) i.isLt, nextLine i,
        if d then [.writeBack i] else []⟩ := by
  unfold selectVictim
  rw [emptyLine_none hne, hscan]
  dsimp only
  rw [hl]
  cases d <;> rfl

/-- Line `i` may be chosen for a victim (R67). -/
abbrev may (s : State) (i : Fin 64) : Bool := choosable s.missTable (lineAt s.lines i) i

/-- What victim selection comes to where it takes the line `k` places past the hand, which holds copy `r` of record
`old` (R67): the fields of the victim, and the referenced flags cleared on the way, on every line that may be chosen where
`again` says that a first pass stopped nowhere. -/
structure VictimAt (s : State) (n k old : Nat) (r : Record) (d again : Bool) (v : Victim) : Prop where
  target : v.target = past s.hand k
  hand : v.hand = past s.hand (k + 1)
  request : v.request = if d then [.writeBack (past s.hand k)] else []
  line : lineAt v.lines (past s.hand k) = if d then .evicting old r n else .filling n
  others : ∀ i, i ≠ past s.hand k →
    lineAt v.lines i =
      if may s i = true ∧ (again = true ∨ ∃ j, j < k ∧ i = past s.hand j) then unreferenced (lineAt s.lines i)
      else lineAt s.lines i

/-- The victim of a scan that ends `k` places past the hand. -/
theorem victimAt_of_scan {s : State} (n : Nat) (hne : ∀ i, lineAt s.lines i ≠ .empty) {k old : Nat} {r : Record}
    {d f p again : Bool} {ls : Vector Line 64}
    (hscan : scan s.missTable 128 s.hand s.lines = some (past s.hand k, ls))
    (hl : lineAt ls (past s.hand k) = .valid old r d f p)
    (hothers : ∀ i, i ≠ past s.hand k →
      lineAt ls i =
        if may s i = true ∧ (again = true ∨ ∃ j, j < k ∧ i = past s.hand j) then unreferenced (lineAt s.lines i)
        else lineAt s.lines i) :
    ∃ v, selectVictim s n = some v ∧ VictimAt s n k old r d again v := by
  refine ⟨_, selectVictim_of_scan n hne hscan hl, rfl, ?_, rfl, ?_, fun i hi => ?_⟩
  · exact nextLine_past s.hand k
  · rw [lineAt_set, if_pos rfl]
  · rw [lineAt_set, if_neg hi]
    exact hothers i hi

/-- The first pass finds an unreferenced line that may be chosen: the first of them is the victim (R67). -/
theorem selectVictim_first {s : State} (n : Nat) (hne : ∀ i, lineAt s.lines i ≠ .empty) {k old : Nat} {r : Record}
    {d p : Bool} (hk : k < 64) (hl : lineAt s.lines (past s.hand k) = .valid old r d false p)
    (hmay : may s (past s.hand k) = true)
    (hbefore : ∀ j, j < k → may s (past s.hand j) = true → referenced (lineAt s.lines (past s.hand j)) = true) :
    ∃ v, selectVictim s n = some v ∧ VictimAt s n k old r d false v := by
  have hpassed (i : Fin 64) (hi : i ≠ past s.hand k) :
      lineAt (scanned s.missTable k s.hand s.lines) i =
        if may s i = true ∧ (false = true ∨ ∃ j, j < k ∧ i = past s.hand j) then unreferenced (lineAt s.lines i)
        else lineAt s.lines i := by
    rw [lineAt_scanned _ hk.le]
    unfold passed
    by_cases h1 : ∃ j, j < k ∧ i = past s.hand j <;> by_cases h2 : may s i = true <;> simp [h1, h2]
  refine victimAt_of_scan (f := false) (p := p) n hne (scan_first hk (stops_of_choosable hmay ?_) fun j hj =>
    not_stops_of_referenced (hbefore j hj)) ?_ hpassed
  · rw [hl]
    rfl
  · rw [lineAt_scanned _ hk.le, if_neg, hl]
    rintro ⟨j, hj, he⟩
    have := past_injective hk (by omega) he
    omega

/-- Every line that may be chosen is referenced: the first of them all is the victim, in the second pass (R67, R68). -/
theorem selectVictim_second {s : State} (n : Nat) (hne : ∀ i, lineAt s.lines i ≠ .empty) {k old : Nat} {r : Record}
    {d f p : Bool} (hk : k < 64) (hl : lineAt s.lines (past s.hand k) = .valid old r d f p)
    (hmay : may s (past s.hand k) = true)
    (hall : ∀ i, may s i = true → referenced (lineAt s.lines i) = true)
    (hbefore : ∀ j, j < k → may s (past s.hand j) = false) :
    ∃ v, selectVictim s n = some v ∧ VictimAt s n k old r d true v := by
  have hpassed (i : Fin 64) :
      lineAt (scanned s.missTable 64 s.hand s.lines) i = passed s.missTable (lineAt s.lines i) i := by
    rw [lineAt_scanned _ le_rfl, if_pos (exists_past s.hand i)]
  have htwice (i : Fin 64) :
      lineAt (scanned s.missTable k s.hand (scanned s.missTable 64 s.hand s.lines)) i =
        passed s.missTable (lineAt s.lines i) i := by
    rw [lineAt_scanned _ hk.le]
    split
    · rename_i h
      obtain ⟨j, hj, rfl⟩ := h
      rw [hpassed, passed_of_not_choosable ((choosable_passed _ _ _).trans (hbefore j hj))]
    · exact hpassed i
  refine victimAt_of_scan (f := false) (p := p) n hne
    (scan_second hk (fun i => not_stops_of_referenced (hall i)) hmay hbefore) ?_ fun i _ => ?_
  · rw [htwice, passed_of_choosable hmay, hl]
    rfl
  · rw [htwice, passed]
    simp

theorem openEntry_of_victim {s : State} {n : Nat} {v : Victim} (h : selectVictim s n = some v) (ph : Phase)
    (w : Waiter) : openEntry s n ph w = some
      { s with
        lines := v.lines
        hand := v.hand
        missTable := s.missTable ++
          [{ number := n, phase := ph, target := v.target, fillDone := false, waiters := [w] }]
        cacheQ := s.cacheQ ++ v.request ++
          (if ph = .reading ∧ (lineAt v.lines v.target).isFilling = true then [.fill n] else [])
        stats := { s.stats with misses := s.stats.misses + 1 } } := by
  simp [openEntry, h, Entry.ready]

/-- Settles O15: the entry opened, and the victim by where the scan stops (`selectVictim_first`,
`selectVictim_second`). -/
theorem entryOpenedOnVictim : Obligations.EntryOpenedOnVictim := by
  unfold Obligations.EntryOpenedOnVictim
  refine ⟨⟨⟨rfl, rfl, rfl⟩, fun s n ph w v hv => openEntry_of_victim hv ph w⟩, fun s n => ⟨fun i hi hlow => ?_, ?_⟩⟩
  · exact selectVictim_of_empty n hi hlow
  · intro hne _ k old r d f p hk hl hmay hfirst
    obtain ⟨v, hv, hvictim⟩ : ∃ v, selectVictim s n = some v ∧ VictimAt s n k old r d f v := by
      rcases hfirst with ⟨rfl, hbefore⟩ | ⟨hall, hbefore⟩
      · exact selectVictim_first n hne hk hl hmay hbefore
      · have href := hall _ hmay
        rw [hl] at href
        obtain rfl : f = true := href
        exact selectVictim_second n hne hk hl hmay hall hbefore
    exact ⟨v, hv, hvictim.target, hvictim.hand, hvictim.request, hvictim.line, hvictim.others⟩

/-! ### A line is always found (R68) -/

theorem countP_or_le {α : Type} (p q : α → Bool) (l : List α) :
    l.countP (fun x => p x || q x) ≤ l.countP p + l.countP q := by
  induction l with
  | nil => exact Nat.zero_le _
  | cons a l ih =>
    simp only [List.countP_cons]
    cases p a <;> cases q a <;> simp <;> omega

/-- Of the 64 lines at most 48 are pinned and at most 7 target lines: where none is EMPTY some line may be chosen
(R68). -/
theorem exists_may {s : State} (hpinned : pinnedCount s ≤ 48) (hentries : s.missTable.length ≤ 7)
    (hreserved : ∀ i : Fin 64, reservedLine (lineAt s.lines i) = true → isTarget s.missTable i = true)
    (hne : ∀ i, lineAt s.lines i ≠ .empty) : ∃ i, may s i = true := by
  by_contra hnone
  have hcover : (List.finRange 64).countP (fun i => (lineAt s.lines i).pinned || isTarget s.missTable i) = 64 := by
    rw [List.countP_eq_length.2, List.length_finRange]
    intro i _
    cases ht : isTarget s.missTable i with
    | true => exact Bool.or_true _
    | false =>
      have hi : may s i = false := by simpa using fun h => hnone ⟨i, h⟩
      cases hl : lineAt s.lines i with
      | empty => exact absurd hl (hne i)
      | valid n r d f p => simpa [may, choosable, hl, ht, Line.pinned] using hi
      | _ => exact absurd (hreserved i (by rw [hl]; rfl)) (by simp [ht])
  have htargets : (List.finRange 64).countP (isTarget s.missTable) ≤ s.missTable.length := by
    rw [List.countP_eq_length_filter, ← List.length_map Entry.target]
    refine List.Subperm.length_le (List.subperm_of_subset ((List.nodup_finRange 64).filter _) fun i hi => ?_)
    obtain ⟨e, he, rfl⟩ := (isTarget_iff _ _).1 (List.mem_filter.1 hi).2
    exact List.mem_map_of_mem he
  have hsum := countP_or_le (fun i => (lineAt s.lines i).pinned) (isTarget s.missTable) (List.finRange 64)
  rw [← pinnedCount_eq] at hsum
  omega

/-- Settles O16: with no EMPTY line some line may be chosen, and the scan ends on one of them. -/
theorem victimAlwaysChosen : Obligations.VictimAlwaysChosen := by
  unfold Obligations.VictimAlwaysChosen
  intro s n hpinned hentries hreserved
  cases hempty : emptyLine s.lines with
  | some i => simp [selectVictim, hempty]
  | none =>
    have hne : ∀ i, lineAt s.lines i ≠ .empty := fun i hi =>
      List.find?_eq_none.1 hempty i (List.mem_finRange i) ((isEmpty_iff_eq _).2 hi)
    obtain ⟨⟨i, ls⟩, hscan⟩ := scan_isSome s.hand (exists_may hpinned hentries hreserved hne)
    obtain ⟨⟨old, r, d, hl⟩, -, -⟩ := scan_some hscan
    rw [selectVictim_of_scan n hne hscan hl]
    rfl

end Sys2Proof.Proofs

/-! SUPPORT. The answers of the Record Store to its requesters (R66, R74 to R80, R139), and the service of an entry's
waiters. -/

namespace Sys2Proof.Proofs

open Sys2Proof Sys2Proof.Machine Sys2Proof.Safety Sys2Proof.Laws

/-! ### The answer to a cell -/

theorem slotFree_iff (s : State) : slotFree s = true ↔ pendingTaken s < 32 := decide_eq_true_iff

theorem slotFree_false {s : State} (h : 32 ≤ pendingTaken s) : slotFree s = false :=
  decide_eq_false (Nat.not_lt.2 h)

theorem tryOpen_of_room {s : State} {n : Nat} (h : s.missTable.length < 8) (w : Waiter) :
    tryOpen s n w = openEntry s n (standing s n).phase w := if_pos h

theorem tryOpen_full {s : State} {n : Nat} (h : 8 ≤ s.missTable.length) (w : Waiter) : tryOpen s n w = none :=
  if_neg (Nat.not_lt.2 h)

/-- The record has no entry and is not resident: a requester opens an entry for it (R66, R71). -/
def Unnamed (s : State) (n : Nat) : Prop :=
  standing s n = .evicting ∨ standing s n = .held ∨ standing s n = .absent

theorem offerCell_named {s : State} {n : Nat} (h : standing s n = .named) (hslot : pendingTaken s < 32) (c : Cell) :
    offerCell s c n = { s with missTable := joinEntry s.missTable n (.cell c), stage := none } := by
  simp [offerCell, h, (slotFree_iff s).2 hslot]

theorem offerCell_named_full {s : State} {n : Nat} (h : standing s n = .named) (hslot : 32 ≤ pendingTaken s)
    (c : Cell) : offerCell s c n = discardCell { s with stage := none } .missOverflow := by
  simp [offerCell, h, slotFree_false hslot]

theorem offerCell_resident {s : State} {n : Nat} {i : Fin 64} (h : standing s n = .resident i) (c : Cell) :
    offerCell s c n = { s with stage := some (.direct c n) } := by
  simp [offerCell, h]

theorem offerCell_opened {s t : State} {n : Nat} {c : Cell} (h : Unnamed s n) (hslot : pendingTaken s < 32)
    (ht : tryOpen s n (.cell c) = some t) : offerCell s c n = { t with stage := none } := by
  obtain h | h | h := h <;> simp [offerCell, h, (slotFree_iff s).2 hslot, ht]

/-- With no slot or no entry free the cell is disposed of under the miss overflow policy (R80). -/
theorem offerCell_overflow {s : State} {n : Nat} (h : Unnamed s n)
    (hfull : 32 ≤ pendingTaken s ∨ 8 ≤ s.missTable.length) (c : Cell) : offerCell s c n = overflowCell s c n := by
  rcases hfull with hslots | hentries
  · obtain h | h | h := h <;> simp [offerCell, h, slotFree_false hslots]
  · obtain h | h | h := h <;> simp [offerCell, h, tryOpen_full hentries]

/-- Settles O14: a case for each standing of the record, with the slots and the places free. -/
theorem cellOfferAnswered : Obligations.CellOfferAnswered := by
  unfold Obligations.CellOfferAnswered
  intro s c n
  refine ⟨fun before e after hat => ⟨fun hslot => ?_, fun hslot => ?_⟩, fun i hi => offerCell_resident hi c,
    fun hunnamed => ⟨fun hslot hentries t ht => ?_, fun hfull => ⟨fun hpolicy => ?_, fun hpolicy => ?_⟩⟩⟩
  · rw [offerCell_named (standing_of_entryAt hat) hslot, joinEntry_of_entryAt hat]
  · rw [offerCell_named_full (standing_of_entryAt hat) hslot]
    rfl
  · exact offerCell_opened hunnamed hslot ((tryOpen_of_room hentries _).trans ht)
  · rw [offerCell_overflow hunnamed hfull, overflowCell, hpolicy]
    rfl
  · rw [offerCell_overflow hunnamed hfull, overflowCell, hpolicy]

/-! ### The answer to a command step -/

theorem recordStep_named {s : State} {n : Nat} {before : List Entry} {e : Entry} {after : List Entry}
    (h : EntryAt s.missTable n before e after) (c : Command) :
    recordStep s c n =
      { s with
        engine := .waitingOnEntry c
        missTable := before ++ { e with waiters := e.waiters ++ [.command false] } :: after } := by
  simp [recordStep, standing_of_entryAt h, joinEntry_of_entryAt h]

theorem recordStep_opened {s t : State} {n : Nat} (h : Unnamed s n) (ht : tryOpen s n (.command false) = some t)
    (c : Command) : recordStep s c n = { t with engine := .waitingOnEntry c } := by
  obtain h | h | h := h <;> simp [recordStep, h, ht]

theorem recordStep_waits {s : State} {n : Nat} (h : Unnamed s n) (ht : tryOpen s n (.command false) = none)
    (c : Command) : recordStep s c n = { s with engine := .waitingForEntry c } := by
  obtain h | h | h := h <;> simp [recordStep, h, ht]

/-- Each record command that has passed its own checks comes to its record step (R138, R139). -/
theorem exec_recordCommand {s : State} {c : Command} {n : Nat} {x : Instr × Byte} (hx : x ∈ recordCommands)
    (h : RecordCommand s c x.2 n) (hpass : PassesOwnChecks s c) : exec x.1 s = .next (recordStep s c n) := by
  obtain ⟨hadmit, hamend, hguard⟩ := hpass
  have hcode : c.code = x.2 := h.1.2.2
  have hstep : recordCommand s c none = recordStep s c n := recordCommand_of_passed h
  have run {code : Byte} {refusal : Command → Option OutcomeCode} (hc : x.2 = code) (hr : refusal c = none) :
      onCurrent s code (fun c => recordCommand s c (refusal c)) = .next (recordStep s c n) := by
    rw [onCurrent_of_current (hc ▸ h.1), hr, hstep]
  simp only [recordCommands, List.mem_cons, List.not_mem_nil, or_false] at hx
  obtain rfl | rfl | rfl | rfl | rfl | rfl | rfl | rfl := hx
  · exact run rfl (hadmit hcode)
  · exact run rfl (hamend hcode)
  · exact run rfl (hguard (.inl hcode))
  · exact run rfl rfl
  · exact run rfl (hguard (.inr hcode))
  · exact run rfl rfl
  · exact run rfl rfl
  · exact run rfl rfl

theorem exec_commandStepRetry {s : State} {c : Command} (hpin : s.resetPin = false)
    (he : s.engine = .waitingForEntry c) :
    exec .commandStepRetry s = .next (recordStep s c (paramRecord c)) := by
  simp [exec, execCommandStepRetry, whileRunning, hpin, he]

theorem claimCommand_of_claim (s : State) (i : Fin 64) (m : Met) (d : Bool) (c : Command) {k : Claimed}
    (h : claimOf s m c = k) :
    claimCommand s i m d c =
      answered
        { k.state with
          lines := k.state.lines.set i.val (.valid m.number k.copy (d || k.copy != m.copy) true k.pinned) i.isLt }
        c k.outcome k.payload := by
  rw [claimCommand_eq, h]
  rfl

/-- Settles O41: the record step is taken, and a case for each standing of the record. -/
theorem recordStepByStanding : Obligations.RecordStepByStanding := by
  unfold Obligations.RecordStepByStanding
  intro s c n i hi
  have hexec : exec i s = .next (recordStep s c n) := by
    obtain ⟨x, hx, rfl, hcommand, hpass⟩ | ⟨rfl, hpin, he, rfl⟩ := hi
    · exact exec_recordCommand hx hcommand hpass
    · exact exec_commandStepRetry hpin he
  rw [hexec]
  refine ⟨fun before e after hat => ?_, fun hunnamed => ⟨fun hroom t ht => ?_, fun hfull => ?_⟩,
    fun l r d f p hres k hk => ?_⟩
  · rw [recordStep_named hat]
  · rw [recordStep_opened hunnamed ((tryOpen_of_room hroom _).trans ht)]
  · rw [recordStep_waits hunnamed (tryOpen_full hfull _)]
  · rw [recordStep_of_resident hres]
    exact congrArg _ (claimCommand_of_claim (countHit s) l ⟨n, r, p, true, false⟩ d c hk)

/-! ### Serving waiters (R74) -/

theorem serveCommand_of_no_entry {s : State} {n : Nat} (h : ∀ x ∈ s.missTable, x.number ≠ n) :
    serveCommand s n = s := by
  rw [serveCommand, findEntry_none.2 h]

theorem serveCommand_of_cell {s : State} {n : Nat} {before : List Entry} {e : Entry} {after : List Entry} {c : Cell}
    {ws : List Waiter} (hat : EntryAt s.missTable n before e after) (hw : e.waiters = .cell c :: ws) :
    serveCommand s n = s := by
  simp [serveCommand, findEntry_of_entryAt hat, hw]

theorem serveCommand_of_command {s : State} {n : Nat} {before : List Entry} {e : Entry} {after : List Entry}
    {met : Bool} {ws : List Waiter} {r : Record} {d f p : Bool} {c : Command}
    (hat : EntryAt s.missTable n before e after) (hw : e.waiters = .command met :: ws)
    (hl : lineAt s.lines e.target = .valid n r d f p) (he : s.engine = .waitingOnEntry c) :
    serveCommand s n =
      claimCommand { s with missTable := served before e ws after } e.target ⟨n, r, p, false, met⟩ d c := by
  simp [serveCommand, findEntry_of_entryAt hat, hw, hl, he, popWaiter_of_entryAt hat]

/-- A claim reads that its record was resident in QUERY's report alone (R155). -/
theorem claimOf_resident (s : State) (m : Met) {c : Command} (h : c.code ≠ codeQuery) (b : Bool) :
    claimOf s { m with resident := b } c = claimOf s m c := by
  unfold claimOf
  rw [if_neg h, if_neg h]
  rfl

/-- RETIRE and QUERY decide by their own rules (R95, R140). -/
theorem claimOf_own_rule (s : State) (m : Met) {c : Command} (h : c.code = codeRetire ∨ c.code = codeQuery) (b : Bool) :
    claimOf s { m with metFault := b } c = claimOf s m c := by
  obtain h | h := h <;> simp only [claimOf, h] <;> rfl

/-- Every other record command that met the fault of its own entry's fill is answered FAULTED, and changes nothing
(R95). -/
theorem claimOf_metFault (s : State) (m : Met) {c : Command} {x : Instr × Byte} (hx : x ∈ recordCommands)
    (hc : c.code = x.2) (hretire : x.2 ≠ codeRetire) (hquery : x.2 ≠ codeQuery) :
    claimOf s { m with metFault := true } c = ⟨s, m.copy, m.pinned, .faulted, []⟩ := by
  simp only [recordCommands, List.mem_cons, List.not_mem_nil, or_false] at hx
  unfold claimOf
  rw [hc]
  obtain rfl | rfl | rfl | rfl | rfl | rfl | rfl | rfl := hx
  case inr.inr.inr.inr.inl => exact absurd rfl hretire
  case inr.inr.inr.inr.inr.inl => exact absurd rfl hquery
  all_goals rfl

/-- Settles O23: the head of the entry by its kind, and what a claim reads of the entry. -/
theorem entryHeadCommandServed : Obligations.EntryHeadCommandServed := by
  unfold Obligations.EntryHeadCommandServed
  refine ⟨fun s n => ⟨serveCommand_of_no_entry, fun before e after hat => ⟨fun c ws hw => serveCommand_of_cell hat hw,
    fun met ws r d f p c hw hl he k hk => ?_⟩⟩, fun s m c b => ⟨fun hc => claimOf_resident s m hc b,
    fun x hx hc hretire hquery => claimOf_metFault s m hx hc hretire hquery, fun hc => claimOf_own_rule s m hc b⟩⟩
  rw [serveCommand_of_command hat hw hl he, claimCommand_of_claim _ _ _ _ _ hk]

/-- The head waiting cell of an entry whose fill is done leaves the entry and is evaluated (R74). -/
theorem serveCell_of_cell {s : State} {n : Nat} {before : List Entry} {e : Entry} {after : List Entry} {c : Cell}
    {ws : List Waiter} {r : Record} {d f p : Bool} (hat : EntryAt s.missTable n before e after)
    (hdone : e.fillDone = true) (hw : e.waiters = .cell c :: ws) (hl : lineAt s.lines e.target = .valid n r d f p) :
    serveCell s n =
      serveCommand (claimCell { s with missTable := served before e ws after } e.target n r d p c) n := by
  simp [serveCell, findEntry_of_entryAt hat, hdone, hw, hl, popWaiter_of_entryAt hat]

/-- An evaluation offers its notice to the same queue whatever the Miss Table holds. -/
theorem offerJudged_setTable (s : State) (t : List Entry) (n : Nat) (j : Judged) :
    offerJudged { s with missTable := t } n j =
      ({ (offerJudged s n j).1 with missTable := t }, (offerJudged s n j).2) := by
  have hroom : noticeRoom { s with missTable := t } = noticeRoom s := rfl
  unfold offerJudged
  split
  · rfl
  · unfold offerNotice
    rw [hroom]
    cases noticeRoom s <;> rfl

/-- The evaluation of an entry's cell on the entry's target line, as one claim (R28, R63, R74). -/
theorem claimCell_from_entry (s : State) (t : List Entry) (i : Fin 64) (n : Nat) (r : Record) (d p : Bool) (c : Cell)
    {j : Judged} (hj : evaluate r (cellLabel c) s.now = j) :
    claimCell { s with missTable := t } i n r d p c =
      settled
        { (offerJudged s n j).1 with
          missTable := t
          lines := s.lines.set i.val (.valid n (offerJudged s n j).2 (d || j.touched) true p) i.isLt }
        c j.verdict := by
  have hlines : (offerJudged s n j).1.lines = s.lines := by
    obtain ⟨_, _, _, h⟩ := (offerJudged_frame s n j).1
    rw [h]
  unfold claimCell
  simp only [hj, offerJudged_setTable, settleCell_eq_settled, State.setLine, hlines]

/-- Settles O22: the place is given to the head cell, which is evaluated on the target line. -/
theorem entryHeadGivenPlace : Obligations.EntryHeadGivenPlace := by
  unfold Obligations.EntryHeadGivenPlace
  rintro s n before e after c ws r d f p hpin hroom hat hdone hw hl j hj q rfl
  have hfree : egressRoom s = true := decide_eq_true hroom
  have hgrant : exec (.egressPlaceGrant (.entry n)) s = .next (serveCell s n) := by
    simp [exec, execEgressPlaceGrant, whileRunning, hpin, hfree]
  rw [hgrant, serveCell_of_cell hat hdone hw hl, claimCell_from_entry s _ _ _ _ _ _ _ hj]
  rfl

end Sys2Proof.Proofs

/-! SUPPORT. The memory path of the Record Store (R72 to R74, R83, R84, R87) and the end of RESTART (R177, R178): what
each event comes to. -/

namespace Sys2Proof.Proofs

open Sys2Proof Sys2Proof.Machine Sys2Proof.Safety Sys2Proof.Laws

/-! ### MEMORY_ISSUE (R83, R98 to R100) -/

theorem exec_memoryIssue {s : State} (hpin : s.resetPin = false) (h : s.inFlight.length < 4) :
    exec .memoryIssue s = .next (issueNext s) := by
  simp [exec, execMemoryIssue, whileRunning, hpin, h]

theorem exec_memoryIssue_full {s : State} (h : 4 ≤ s.inFlight.length) : exec .memoryIssue s = .next s := by
  have hfull : ¬s.inFlight.length < Config.flightLimit := Nat.not_lt.2 h
  simp [exec, execMemoryIssue, whileRunning, hfull]

theorem issueNext_cache {s : State} (hp : s.pass = .none) {q : CacheReq} {rest : List CacheReq}
    (h : s.cacheQ = q :: rest) : issueNext s = fly { s with cacheQ := rest } q.txn := by
  simp [issueNext, hp, h]

theorem issueNext_sweep {s : State} (hp : s.pass = .none) (hq : s.cacheQ = []) {r : SweepReq}
    (h : s.sweepReq = some r) : issueNext s = fly { s with sweepReq := none } r.txn := by
  simp [issueNext, hp, hq, h]

theorem issueNext_idle {s : State} (hp : s.pass = .none) (hq : s.cacheQ = []) (h : s.sweepReq = none) :
    issueNext s = s := by
  simp [issueNext, hp, hq, h]

theorem issueNext_format {s : State} {n : Nat} (hp : s.pass = .format n) :
    issueNext s =
      if n < s.setup.capacity then fly { s with pass := .format (n + 1) } (.formatWrite n) else s := by
  simp [issueNext, hp]

theorem issueNext_repair {s : State} {n m : Nat} {counts : StateCounts} {r : Record} {more : List (Nat × Record)}
    (hp : s.pass = .resume n counts ((m, r) :: more)) :
    issueNext s = fly { s with pass := .resume n counts more } (.resumeWrite m r) := by
  simp [issueNext, hp]

theorem issueNext_resume {s : State} {n : Nat} {counts : StateCounts} (hp : s.pass = .resume n counts []) :
    issueNext s =
      if n < s.setup.capacity then fly { s with pass := .resume (n + 1) counts [] } (.resumeRead n) else s := by
  simp [issueNext, hp]

/-- Settles O24: a case for each pass in progress and each request at the head of its queue. -/
theorem memoryIssueOrder : Obligations.MemoryIssueOrder := by
  unfold Obligations.MemoryIssueOrder
  refine fun s hpin => ⟨exec_memoryIssue_full, fun hroom => ?_⟩
  rw [exec_memoryIssue hpin hroom]
  refine ⟨fun hp => ⟨fun n rest hq => ?_, fun i rest hq => ?_,
    fun hq => ⟨fun n hr => ?_, fun n hr => ?_, fun hr => ?_⟩⟩, fun n hp => ⟨fun hlt => ?_, fun hge => ?_⟩, fun n counts writes hp => ⟨?_, ?_, ?_⟩⟩
  · rw [issueNext_cache hp hq]
    rfl
  · rw [issueNext_cache hp hq]
    rfl
  · rw [issueNext_sweep hp hq hr]
    rfl
  · rw [issueNext_sweep hp hq hr]
    rfl
  · rw [issueNext_idle hp hq hr]
  · rw [issueNext_format hp, if_pos hlt]
    rfl
  · rw [issueNext_format hp, if_neg (Nat.not_lt.2 hge)]
  · rintro m r more rfl
    rw [issueNext_repair hp]
    rfl
  · rintro rfl hlt
    rw [issueNext_resume hp, if_pos hlt]
    rfl
  · rintro rfl hge
    rw [issueNext_resume hp, if_neg (Nat.not_lt.2 hge)]

/-! ### WRITE_BACK_COMPLETE (R72, R84, R87) -/

theorem completing_of_number {s : State} (hpin : s.resetPin = false) {n : Nat} (hn : n < Config.maxRecords)
    (t : State) : completing n s t = .next t := by
  rw [completing, hpin, if_neg Bool.false_ne_true, if_pos hn]

theorem exec_writeBack_evicting {s : State} {i : Fin 64} {rest : List Txn} {old reserved : Nat} {r : Record}
    (hpin : s.resetPin = false) (hf : s.inFlight = .writeBack i :: rest)
    (hl : lineAt s.lines i = .evicting old r reserved) (hn : old < Config.maxRecords) :
    exec .writeBackComplete s = .next (evictionWritten { s with inFlight := rest } i old r reserved) := by
  simp only [exec, execWriteBackComplete, hf, hl, completing_of_number hpin hn]

theorem exec_writeBack_restart {s : State} {i : Fin 64} {rest : List Txn} {n requested : Nat} {r : Record}
    {d f p : Bool} (hpin : s.resetPin = false) (hf : s.inFlight = .writeBack i :: rest)
    (hl : lineAt s.lines i = .valid n r d f p) (hr : s.restart = .writingBack requested) (hn : n < Config.maxRecords) :
    exec .writeBackComplete s = .next (restartWritten { s with inFlight := rest } i n r f p requested) := by
  simp only [exec, execWriteBackComplete, hf, hl, hr, completing_of_number hpin hn]

/-- A write-back's image written and counted, and its line put (R84). -/
theorem writtenBack_eq (s : State) (n : Nat) (r : Record) (i : Fin 64) (l : Line) :
    (countWriteBack (writeImage s n r)).setLine i l =
      { s with
        lines := s.lines.set i.val l i.isLt
        memory := (writeImage s n r).memory
        stats := { s.stats with dirtyWriteBacks := s.stats.dirtyWriteBacks + 1 } } := by
  simp only [State.setLine, countWriteBack, writeImage]

theorem restartWritten_last {s : State} (hq : s.cacheQ = []) (hf : s.inFlight = []) (i : Fin 64) (n : Nat) (r : Record)
    (f p : Bool) (k : Nat) :
    restartWritten s i n r f p k =
      emptyLines ((countWriteBack (writeImage s n r)).setLine i (.valid n r false f p)) k := by
  simp [restartWritten, hq, hf]

theorem restartWritten_more {s : State} (h : ¬(s.cacheQ = [] ∧ s.inFlight = [])) (i : Fin 64) (n : Nat) (r : Record)
    (f p : Bool) (k : Nat) :
    restartWritten s i n r f p k = (countWriteBack (writeImage s n r)).setLine i (.valid n r false f p) := by
  simp [restartWritten, h]

/-- Settles O27: the write-back by its line, and in RESTART by whether it is the last. -/
theorem writeBackCompleted : Obligations.WriteBackCompleted := by
  unfold Obligations.WriteBackCompleted
  refine fun s i rest hpin hf => ⟨?_, fun n r d f p requested hl hr hn => ?_⟩
  · rintro old r reserved hl hn table lines rfl rfl
    rw [exec_writeBack_evicting hpin hf hl hn, evictionWritten_eq]
    rfl
  · rw [exec_writeBack_restart hpin hf hl hr hn]
    refine ⟨fun hmore => ?_, ?_⟩
    · rw [restartWritten_more hmore, writtenBack_eq]
      rfl
    · rintro hq rfl
      rw [restartWritten_last (s := { s with inFlight := [] }) hq rfl, writtenBack_eq]
      rfl

/-! ### FILL_READ_COMPLETE (R73, R94, R95) -/

theorem exec_fillRead {s : State} {n : Nat} {rest : List Txn} {before : List Entry} {e : Entry} {after : List Entry}
    (hpin : s.resetPin = false) (hf : s.inFlight = .fill n :: rest) (hn : n < Config.maxRecords)
    (hat : EntryAt s.missTable n before e after) (damage : Damage) :
    exec (.fillReadComplete damage) s =
      .next (serveCommand (landed { s with inFlight := rest } n e.target damage) n) := by
  simp only [exec, execFillReadComplete, hf, findEntry_of_entryAt hat, completing_of_number hpin hn, filled_eq]

theorem occupied_not_mem (s : State) (n : Nat) : (!occupied s n) = decide (n ∉ s.occupancy) := by
  simp [occupied]

theorem readImage_same {s t : State} {n : Nat} {source : FaultSource} {vacant : Bool} {damage : Damage} {x : Formed}
    (h : readImage s n source vacant damage = (t, x)) :
    t.lines = s.lines ∧ t.missTable = s.missTable ∧ t.now = s.now := by
  obtain rfl : (readImage s n source vacant damage).1 = t := congrArg Prod.fst h
  exact ⟨rfl, rfl, rfl⟩

/-- The line and the entry when the fill read of the record has been judged (R73, R94, R95). -/
theorem landed_of_read {s t : State} {n : Nat} {i : Fin 64} {damage : Damage} {x : Formed} {before : List Entry}
    {e : Entry} {after : List Entry} (hat : EntryAt s.missTable n before e after)
    (hread : readImage s n .fill (!occupied s n) damage = (t, x)) :
    landed s n i damage =
      { (offerFaulted t n x).1 with
        lines := s.lines.set i.val (.valid n (offerFaulted t n x).2 x.dirty false false) i.isLt
        missTable := before ++ filledEntry x e :: after } := by
  obtain ⟨hlines, htable, -⟩ := readImage_same hread
  obtain ⟨new, occupancy, owed, hoffer⟩ := (offerFaulted_frame t n x).1
  have hline : (offerFaulted t n x).1.lines = s.lines := by rw [hoffer, ← hlines]
  have hentry : (updateEntry (offerFaulted t n x).1.missTable n fun e => some (filledEntry x e)) =
      before ++ filledEntry x e :: after := by
    rw [hoffer, ← updateEntry_of_entryAt hat fun e => some (filledEntry x e), ← htable]
  rw [← hline, ← hentry, landed, hread]
  rfl

/-- Settles O28: the read judged, its notice offered where it made the record FAULTED, and the entry served. -/
theorem fillReadCompleted : Obligations.FillReadCompleted := by
  unfold Obligations.FillReadCompleted
  intro s n rest damage before e after t x hpin hf hn hat hread
  rw [← occupied_not_mem] at hread
  obtain ⟨hlines, -, hnow⟩ := readImage_same hread
  rw [exec_fillRead hpin hf hn hat, landed_of_read (s := { s with inFlight := rest }) hat hread]
  refine ⟨fun hsound => ?_, ?_⟩
  · have hoffer : offerFaulted t n x = (t, x.copy) := by simp [offerFaulted, hsound]
    rw [hoffer, hlines, filledEntry, hsound]
    rfl
  · rintro hfault q rfl
    have hoffer : offerFaulted t n x =
        offerNotice t x.copy .faulted
          ⟨.faulted x.copy.faultSource x.copy.owedLost, n, x.copy.generation, s.now⟩ := by
      simp [offerFaulted, hfault, hnow]
    rw [hoffer, filledEntry, hfault]
    rfl

/-! ### RESTART (R87, R177, R178) -/

theorem drained_iff (s : State) :
    drained s = true ↔
      s.device = .restarting ∧ s.restart = .draining ∧ s.transfer = none ∧ s.stage = none ∧ s.ingress = [] ∧
        s.missTable = [] ∧ s.hold = .none := by
  have hidle : visitInProgress s = false ↔ s.hold = .none := by
    cases h : s.hold <;> simp [visitInProgress, h, SweepHold.number]
  simp [drained, hidle, and_assoc]

theorem exec_writeBackRequest {s : State} (hpin : s.resetPin = false) (h : drained s = true) :
    exec .restartWriteBackRequest s = .next (requestWriteBacks s) := by
  simp [exec, execRestartWriteBackRequest, whileRunning, hpin, h]

theorem exec_writeBackRequest_early {s : State} (h : drained s = false) :
    exec .restartWriteBackRequest s = .next s := by
  simp [exec, execRestartWriteBackRequest, whileRunning, h]

theorem isDirty_iff (l : Line) : l.isDirty = true ↔ ∃ n r f p, l = .valid n r true f p := by
  cases l <;> simp [Line.isDirty]

theorem mem_dirtyLines (s : State) (i : Fin 64) :
    i ∈ dirtyLines s ↔ ∃ n r f p, lineAt s.lines i = .valid n r true f p := by
  simp [dirtyLines, isDirty_iff]

/-- A list in line order of the dirty lines is the list of the dirty lines. -/
theorem eq_dirtyLines {s : State} {dirty : List (Fin 64)} (hsorted : dirty.Pairwise (· < ·))
    (hmem : ∀ i, i ∈ dirty ↔ ∃ n r f p, lineAt s.lines i = .valid n r true f p) : dirty = dirtyLines s := by
  have hlines : (dirtyLines s).Pairwise (· < ·) := (List.pairwise_lt_finRange 64).filter _
  refine List.Perm.eq_of_pairwise (fun a b _ _ hab hba => absurd hab hba.asymm) hsorted hlines ?_
  exact (List.perm_ext_iff_of_nodup hsorted.nodup hlines.nodup).2 fun i => (hmem i).trans (mem_dirtyLines s i).symm

theorem exec_restartComplete {s : State} {requested : Nat} (hpin : s.resetPin = false)
    (h : s.restart = .emptied requested) (hsent : s.egress = []) :
    exec .restartComplete s = .next (endRestart s requested) := by
  simp [exec, execRestartComplete, whileRunning, hpin, h, hsent]

theorem exec_restartComplete_early {s : State} (h : s.egress ≠ []) : exec .restartComplete s = .next s := by
  obtain ⟨e, rest, he⟩ := List.exists_cons_of_ne_nil h
  cases hr : s.restart <;> simp [exec, execRestartComplete, whileRunning, he, hr]

theorem completeOperation_of_operation {s : State} {c : Command} (h : s.engine = .inOperation c) (p : List Byte) :
    completeOperation s p = answered s c .ok p := by
  rw [completeOperation, h]
  exact complete_eq_answered s c .ok p

theorem beBytes_one (v : Nat) : beBytes 1 v = [BitVec.ofNat 8 v] := by
  simp [beBytes]

/-- Settles O32: the write-backs requested, by the drain and the dirty lines, and the completion, by the Egress FIFO. -/
theorem restartSequence : Obligations.RestartSequence := by
  unfold Obligations.RestartSequence
  refine ⟨fun s hpin => ⟨fun hnot => ?_, fun h1 h2 h3 h4 h5 h6 h7 dirty hsorted hmem => ?_⟩,
    fun s c requested hpin hengine hrestart => ⟨exec_restartComplete_early, fun hsent => ?_⟩⟩
  · rw [← drained_iff, Bool.not_eq_true] at hnot
    exact exec_writeBackRequest_early hnot
  · obtain rfl := eq_dirtyLines hsorted hmem
    rw [exec_writeBackRequest hpin ((drained_iff s).2 ⟨h1, h2, h3, h4, h5, h6, h7⟩), requestWriteBacks]
    refine ⟨fun hdirty => ?_, fun hclean => ?_⟩
    · rw [if_neg (by simpa using hdirty)]
      rfl
    · rw [if_pos (by simpa using hclean)]
      rfl
  · rw [exec_restartComplete hpin hrestart hsent, endRestart, completeOperation_of_operation (by exact hengine),
      beBytes_one]
    rfl

end Sys2Proof.Proofs

/-! SUPPORT. What one event does to record memory, and the canonical form of it that every event keeps (R88, log 5). -/

namespace Sys2Proof.Proofs

open Sys2Proof Sys2Proof.Machine Sys2Proof.Safety Sys2Proof.Laws

/-! ### What an event does to record memory -/

/-- What an event other than a reset makes of record memory: nothing, the damage that a read finds, or one image
written. -/
inductive MemoryChange (m m' : Memory) : Prop
  | same (h : m' = m)
  | damaged (n : Nat) (damage : Damage) (h : m' = m.addDamage n damage)
  | written (n : Nat) (r : Record) (h : m' = m.writeWords (16 * n) (encodeImage r))

namespace MemoryChange

theorem wf {m m' : Memory} (h : MemoryChange m m') (hm : m.wf) : m'.wf := by
  cases h with
  | same h => exact h ▸ hm
  | damaged n damage h => exact h ▸ Memory.wf_addDamage hm n damage
  | written n r h => exact h ▸ Memory.wf_writeWords hm _ _

end MemoryChange

theorem keptByVisit_memory {k : Nat} {s t : State} (h : KeptByVisit k s t) : t.memory = s.memory := by
  obtain ⟨j, out, responses, notices, -, hkept⟩ := h
  exact hkept.memory

theorem completeOperation_memory (s : State) (p : List Byte) : (completeOperation s p).memory = s.memory :=
  (completeOperation_quiet s p).memory

theorem finishResume_memory (s : State) : (finishResume s).memory = s.memory := by
  obtain h | ⟨⟨p, h⟩, -⟩ := finishResume_cases s <;> rw [h]
  exact completeOperation_memory _ p

theorem issueNext_memory (s : State) : (issueNext s).memory = s.memory := by
  unfold issueNext
  repeat' split
  all_goals rfl

theorem resumeJudged_memory (s : State) (n next : Nat) (counts : StateCounts) (writes : List (Nat × Record))
    (damage : Damage) :
    (resumeJudged s n next counts writes damage).memory = s.memory.addDamage n damage := by
  unfold resumeJudged
  rw [finishResume_memory]
  exact (offerFaulted_kept _ _ _).memory

theorem formatWritten_memory (s : State) (n : Nat) :
    (formatWritten s n).memory = (writeImage s n Record.blank).memory := by
  unfold formatWritten
  dsimp only
  split
  · exact completeOperation_memory _ _
  · rfl

theorem restartWritten_memory (s : State) (i : Fin 64) (n : Nat) (copy : Record) (f p : Bool) (k : Nat) :
    (restartWritten s i n copy f p k).memory = (writeImage s n copy).memory := by
  obtain h | ⟨h, -⟩ := restartWritten_kept s i n copy f p k <;> exact h.memory

/-- Every event but the resets leaves record memory as it was, finds damage in one image, or writes one image. -/
theorem Effect.memoryChange {c : Instr} {s t : State} (h : Effect c s t) (hreset : isResetEvent c = false) :
    MemoryChange s.memory t.memory := by
  cases h with
  | nothing => exact .same rfl
  | reset _ _ _ event => rw [event] at hreset; cases hreset
  | tick event first =>
    obtain rfl | ⟨-, rfl⟩ := first
    · exact .same rfl
    · have hmemory := keptByVisit_memory (takeDueStep_kept .none s)
      exact .same hmemory
  | sweepStep during due => exact .same (keptByVisit_memory (takeDueStep_kept during s))
  | transfer first => exact .same rfl
  | cellAccepted first rest transfer => exact .same rfl
  | headLeft working stage head => exact .same (headLeft_kept _ _).memory
  | stageGranted room => exact .same (grantStage_kept s).memory
  | entryGranted n room => exact .same (serveCell_kept s n).memory
  | cellEmitted head => exact .same rfl
  | issued room => exact .same (issueNext_memory s)
  | evictionWritten flight line number => exact .written _ _ (evictionWritten_kept _ _ _ _ _).memory
  | restartWritten flight line restart number => exact .written _ _ (restartWritten_memory _ _ _ _ _ _ _)
  | filled damage flight entry number => exact .damaged _ damage (filled_kept _ _ _ damage).memory
  | sweepVisited damage during flight number =>
    exact .damaged _ damage (keptByVisit_memory (sweepVisited_kept _ _ damage during))
  | sweepWritten during flight hold number =>
    exact .written _ _ (keptByVisit_memory (sweepWritten_kept _ _ _ during))
  | formatWritten flight pass number => exact .written _ _ (formatWritten_memory _ _)
  | resumeJudged damage flight pass number => exact .damaged _ damage (resumeJudged_memory _ _ _ _ _ damage)
  | resumeWritten flight number => exact .written _ _ (finishResume_memory _)
  | writeBacksRequested drained =>
    unfold requestWriteBacks
    split <;> exact .same rfl
  | restartEnded restart sent => exact .same (completeOperation_memory _ _)
  | linked link =>
    obtain ⟨_, _, _, _, _, _, _, rfl⟩ := link
    exact .same rfl
  | commandAccepted cmd link =>
    obtain ⟨_, _, _, _, _, _, _, rfl⟩ := link
    exact .same (takeNext_quiet _).memory
  | answered o payload engine => exact .same (answered_quiet s _ o payload).memory
  | configured event engine device allowed => exact .same (answered_quiet _ _ _ _).memory
  | ruleWritten hk engine allowed => exact .same (answered_quiet _ _ _ _).memory
  | formatBegun engine device => exact .same rfl
  | resumeBegun engine device preserved => exact .same rfl
  | restartBegun engine device => exact .same rfl
  | recordCommand refusal engine => exact .same (recordCommand_kept (by rw [engine]; rfl) _ _).memory
  | stepRetried engine => exact .same (recordStep_kept (by rw [engine]; rfl) _ _).memory

/-! ### The canonical form (log 5) -/

/-- A write cut short has written words of one image at most (R88, log 12). -/
theorem wf_cutShort {s : State} (h : s.memory.wf) (words : Nat) : (cutShort s words).wf := by
  unfold cutShort
  split
  · exact h
  · split
    · exact h
    · exact Memory.wf_writeWords h _ _

theorem exec_keeps_memory_wf {c : Instr} {s t : State} (h : exec c s = .next t) (hs : s.memory.wf) : t.memory.wf := by
  cases hreset : isResetEvent c with
  | false => exact ((exec_effect h).memoryChange hreset).wf hs
  | true =>
    cases c with
    | powerOn low sram errors =>
      cases h
      exact Memory.wf_ofContents sram errors
    | resetPinAssert words =>
      cases h
      split
      · exact hs
      · exact wf_cutShort hs words
    | resetPinDeassert low =>
      cases h
      split <;> exact hs
    | _ => cases hreset

/-- Settles O60: what an event does to record memory, and the cut of a write at RESET, keep the canonical form. -/
theorem memoryFormIsKept : Obligations.MemoryFormIsKept := by
  unfold Obligations.MemoryFormIsKept
  intro s t hs hstep
  unfold step at hstep
  split at hstep
  · cases hstep
    exact hs
  · exact exec_keeps_memory_wf hstep hs

end Sys2Proof.Proofs

/-! SUPPORT. Record memory across power-on and the RESET pin (R88, R89), and the image of a record: the words written and
what decoding them gives back (R183). -/

namespace Sys2Proof.Proofs

open Sys2Proof Sys2Proof.Machine Sys2Proof.Safety Sys2Proof.Laws

/-! ### Power-on: a memory in canonical form is built from its own entries (log 11) -/

section

variable {α : Type}

theorem sparsePut_above {m : List (Nat × α)} {a : Nat} (h : ∀ p ∈ m, p.1 < a) (v : α) :
    sparsePut m a v = m ++ [(a, v)] := by
  induction m with
  | nil => rfl
  | cons q t ih =>
    obtain ⟨b, w⟩ := q
    have hb : b < a := h (b, w) List.mem_cons_self
    rw [sparsePut, if_neg (by omega), if_neg (by omega), ih fun p hp => h p (List.mem_cons_of_mem _ hp)]
    rfl

/-- The next entry of a list in canonical form, set in what stands before it. -/
theorem sparseSet_next [DecidableEq α] {m t : List (Nat × α)} {d : α} {bound : Nat} {p : Nat × α}
    (h : sparseWf (m ++ p :: t) d bound) : sparseSet m d p.1 p.2 = m ++ [p] ∧ p.1 < bound := by
  obtain ⟨hsorted, hentries⟩ := h
  obtain ⟨hvalue, hbound⟩ := hentries p (by simp)
  have hbefore : ∀ q ∈ m, q.1 < p.1 := fun q hq => (List.pairwise_append.1 hsorted).2.2 q hq p List.mem_cons_self
  rw [sparseSet, if_neg hvalue, sparsePut_above hbefore]
  exact ⟨rfl, hbound⟩

end

theorem writeByte_all (l : List Host.Cell) (m : Memory)
    (h : sparseWf (m.bytes ++ l) unwrittenByte (8 * Config.memoryWords)) :
    l.foldl (fun m p => m.writeByte p.1 p.2) m = { m with bytes := m.bytes ++ l } := by
  induction l generalizing m with
  | nil => simp
  | cons p t ih =>
    obtain ⟨hset, hbound⟩ := sparseSet_next h
    rw [List.foldl_cons, Memory.writeByte, if_pos hbound, hset, ih _ (by simpa using h)]
    simp

theorem setError_all (l : List (Nat × ErrorMask)) (m : Memory)
    (h : sparseWf (m.errors ++ l) 0#72 Config.memoryWords) :
    l.foldl (fun m p => m.setError p.1 p.2) m = { m with errors := m.errors ++ l } := by
  induction l generalizing m with
  | nil => simp
  | cons p t ih =>
    obtain ⟨hset, hbound⟩ := sparseSet_next h
    rw [List.foldl_cons, Memory.setError, if_pos hbound, hset, ih _ (by simpa using h)]
    simp

theorem ofContents_of_wf {sram : List Host.Cell} {errors : List (Nat × ErrorMask)}
    (h : Memory.wf ⟨sram, errors⟩) : Memory.ofContents sram errors = ⟨sram, errors⟩ := by
  have hbytes := writeByte_all sram ⟨[], []⟩ h.1
  have herrors := setError_all errors ⟨sram, []⟩ h.2
  rw [Memory.ofContents, hbytes]
  exact herrors

/-! ### The RESET pin: the words of a write cut short (R88, log 12) -/

theorem cutShort_of_no_write {s : State} (h : ∀ x rest, s.inFlight = x :: rest → writeInFlight s x = none)
    (words : Nat) : cutShort s words = s.memory := by
  unfold cutShort
  split
  · rfl
  · rename_i x rest hf
    rw [h x rest hf]

theorem cutShort_of_write {s : State} {x : Txn} {rest : List Txn} {n : Nat} {copy : Record}
    (hf : s.inFlight = x :: rest) (hw : writeInFlight s x = some (n, copy)) (words : Nat) :
    cutShort s words = s.memory.writeWords (16 * n) ((encodeImage copy).take (min words 15)) := by
  simp only [cutShort, hf, hw]

/-- The memory that the assertion of the RESET pin leaves. -/
theorem resetPinAssert_memory {s t : State} {words : Nat} (hpin : s.resetPin = false)
    (h : exec (.resetPinAssert words) s = .next t) : t.memory = cutShort s words := by
  cases h
  rw [if_neg (by simp [hpin])]

/-- The leading words of an image, at most fifteen, written over the record's image. -/
theorem writeWords_leading (m : Memory) {n : Nat} (hn : n < Config.maxRecords) (copy : Record) (words : Nat) :
    (∀ a, a < 128 * n ∨ 128 * n + 120 ≤ a →
      (m.writeWords (16 * n) ((encodeImage copy).take (min words 15))).readByte a = m.readByte a) ∧
    (∀ k, k < 16 → (m.writeWords (16 * n) ((encodeImage copy).take (min words 15))).readWord (16 * n + k) =
      if k < words ∧ k < 15 then (encodeImage copy).getD k 0 else m.readWord (16 * n + k)) ∧
    ∀ w, (m.writeWords (16 * n) ((encodeImage copy).take (min words 15))).errorAt w =
      if 16 * n ≤ w ∧ w < 16 * n + min words 15 then 0 else m.errorAt w := by
  have hlength : ((encodeImage copy).take (min words 15)).length = min words 15 := by
    rw [List.length_take, length_encodeImage]
    omega
  have hfit : 16 * n + ((encodeImage copy).take (min words 15)).length ≤ Config.memoryWords := by
    have himage := Memory.image_in_memory hn
    omega
  obtain ⟨hword, herror, hbyte⟩ := Memory.writeWords_spec m (16 * n) _ hfit
  rw [hlength] at hword herror hbyte
  refine ⟨fun a ha => hbyte a (by omega), fun k hk => ?_, herror⟩
  rw [hword, Nat.add_sub_cancel_left]
  by_cases hlead : k < words ∧ k < 15
  · rw [if_pos (by omega), if_pos hlead, List.getD_eq_getElem?_getD, List.getElem?_take_of_lt (by omega),
      ← List.getD_eq_getElem?_getD]
  · rw [if_neg (by omega), if_neg hlead]

/-- Settles O4: the contents that POWER_ON carries, and the words that the oldest write in flight has transferred. -/
theorem memoryAcrossReset : Obligations.MemoryAcrossReset := by
  unfold Obligations.MemoryAcrossReset
  refine ⟨fun low sram errors s t hwf h => ?_, fun words s t hpin h hno => ?_,
    fun words n copy x rest s t hpin h hf hw hn => ?_⟩
  · cases h
    exact ofContents_of_wf hwf
  · rw [resetPinAssert_memory hpin h, cutShort_of_no_write hno]
  · rw [resetPinAssert_memory hpin h, cutShort_of_write hf hw]
    exact writeWords_leading s.memory hn copy words

/-! ### The image of a record (R88, R89, R183) -/

/-- The write of an image as the memory sees it: the record's sixteen words, and no byte and no word's errors beside. -/
theorem writeImage_words (m : Memory) {n : Nat} (hn : n < Config.maxRecords) (r : Record) :
    (∀ k, k < 16 → (m.writeWords (16 * n) (encodeImage r)).readWord (16 * n + k) = (encodeImage r).getD k 0 ∧
      (m.writeWords (16 * n) (encodeImage r)).errorAt (16 * n + k) = 0) ∧
    (∀ a, a < 128 * n ∨ 128 * n + 128 ≤ a →
      (m.writeWords (16 * n) (encodeImage r)).readByte a = m.readByte a) ∧
    ∀ w, w < 16 * n ∨ 16 * n + 16 ≤ w → (m.writeWords (16 * n) (encodeImage r)).errorAt w = m.errorAt w := by
  have hfit : 16 * n + (encodeImage r).length ≤ Config.memoryWords := by
    rw [length_encodeImage]
    exact Memory.image_in_memory hn
  obtain ⟨-, herror, hbyte⟩ := Memory.writeWords_spec m (16 * n) (encodeImage r) hfit
  rw [length_encodeImage] at herror hbyte
  refine ⟨fun k hk => ⟨(readWord_writeImage m hn r).1 k hk, ?_⟩, fun a ha => hbyte a (by omega), fun w hw => ?_⟩
  · rw [herror, if_pos (by omega)]
  · rw [herror, if_neg (by omega)]

theorem ofCode_code (st : RecState) : RecState.ofCode st.code = some st := by cases st <;> rfl

theorem faultSource_ofCode_code (x : FaultSource) : FaultSource.ofCode x.code = x := by cases x <;> rfl

theorem getLsbD_append_high {v w i : Nat} (x : BitVec v) (y : BitVec w) (h : w ≤ i) :
    (x ++ y).getLsbD i = x.getLsbD (i - w) := by
  rw [BitVec.getLsbD_append, if_neg (by omega)]

theorem getLsbD_append_low {v w i : Nat} (x : BitVec v) (y : BitVec w) (h : i < w) :
    (x ++ y).getLsbD i = y.getLsbD i := by
  rw [BitVec.getLsbD_append, if_pos h]

theorem getLsbD_ofBool_zero (b : Bool) : (BitVec.ofBool b).getLsbD 0 = b := by cases b <;> rfl

/-- An optional part read back from its presence bit and its value (R183). -/
theorem ofPresence {w : Nat} (x : Option (BitVec w)) :
    (if x.isSome then some (x.getD 0) else none) = x := by
  cases x <;> rfl

/-- The image of a record that is not FAULTED gives back every field (R183). -/
theorem decodeRecord_encodeImage {r : Record} (h : r.state ≠ .faulted) : decodeRecord r.state (encodeImage r) = r := by
  simp only [decodeRecord, encodeImage, recordBodies, identityWord, List.map_cons, List.map_nil, List.getD_cons_zero,
    List.getD_cons_succ, if_neg h]
  simp (disch := omega) only [BitVec.extractLsb'_append_eq_of_le, BitVec.extractLsb'_append_eq_of_add_le,
    getLsbD_append_high, getLsbD_append_low, BitVec.extractLsb'_eq_self, optionalTick, optional32, Nat.reduceSub,
    ofPresence, getLsbD_ofBool_zero, faultSource_ofCode_code, ofBits_bits]

/-- The image of a FAULTED record gives back what has meaning there, and every other field 0 (R16, R89). -/
theorem decodeRecord_encodeImage_faulted {r : Record} (h : r.state = .faulted) :
    decodeRecord .faulted (encodeImage r) =
      { Record.blank with
        state := .faulted, generation := r.generation, generationKnown := r.generationKnown, owed := r.owed,
        faultSource := r.faultSource, owedLost := r.owedLost } := by
  simp only [Record.blank, decodeRecord, encodeImage, recordBodies, identityWord, List.map_cons, List.map_nil,
    List.getD_cons_zero, List.getD_cons_succ, List.getD_nil, if_pos h]
  simp (disch := omega) only [BitVec.extractLsb'_append_eq_of_le, BitVec.extractLsb'_append_eq_of_add_le,
    getLsbD_append_high, getLsbD_append_low, BitVec.extractLsb'_eq_self, BitVec.extractLsb'_zero,
    BitVec.getLsbD_zero, optionalTick,
    optional32, Nat.reduceSub, ↓reduceIte, Bool.false_eq_true, getLsbD_ofBool_zero, faultSource_ofCode_code,
    ofBits_bits, BitVec.ofNat_eq_ofNat]

/-- Settles O25: the sixteen words written, and what decoding them gives back. -/
theorem imageWritten : Obligations.ImageWritten := by
  unfold Obligations.ImageWritten
  refine ⟨fun s n r hn => ⟨_, rfl, writeImage_words s.memory hn r⟩, fun r => ⟨length_encodeImage r,
    fun k hk => owedCopy_encodeImage r hk, ?_, decodeRecord_encodeImage, decodeRecord_encodeImage_faulted⟩⟩
  show RecState.ofCode ((identityWord r).extractLsb' 0 3) = some r.state
  rw [identityWord_code, ofCode_code]

end Sys2Proof.Proofs

/-! SUPPORT. What a read of an image forms (R89 to R96, R99, R100): the words by their bits in error, the copy by the
condition of the image, and the copy that a write has put there. -/

namespace Sys2Proof.Proofs

open Sys2Proof Sys2Proof.Machine Sys2Proof.Safety Sys2Proof.Laws

/-! ### A word by its bits in error (R90) -/

theorem checkWord_clean {d : DataWord} {e : ErrorMask} (h : errorCount e = 0) : checkWord d e = .clean d := by
  simp only [checkWord, h]

theorem checkWord_corrected {d : DataWord} {e : ErrorMask} (h : errorCount e = 1) : checkWord d e = .corrected d := by
  simp only [checkWord, h]

theorem checkWord_uncorrectable {d : DataWord} {e : ErrorMask} (h : errorCount e = 2) :
    checkWord d e = .uncorrectable := by
  simp only [checkWord, h]

theorem errorCount_none : errorCount 0 = 0 := by decide +kernel

theorem getLsbD_one_shift {a i : Nat} (hi : i < 72) : (1#72 <<< a).getLsbD i = decide (i = a) := by
  rw [BitVec.getLsbD_shiftLeft, decide_eq_true hi, BitVec.getLsbD_one]
  by_cases h : i = a
  · simp [h]
  · simp [h]; omega

/-- One place of a range is counted once. -/
theorem countP_range_eq {N a : Nat} (h : a < N) : (List.range N).countP (fun i => decide (i = a)) = 1 := by
  have hcount := (List.nodup_range (n := N)).count (a := a)
  rw [if_pos (List.mem_range.2 h)] at hcount
  exact hcount

theorem errorCount_one {a : Nat} (ha : a < 72) : errorCount (1#72 <<< a) = 1 := by
  refine Eq.trans ?_ (countP_range_eq ha)
  refine List.countP_congr fun i hi => ?_
  rw [getLsbD_one_shift (List.mem_range.1 hi)]

theorem errorCount_two {a b : Nat} (hab : a < b) (hb : b < 72) : errorCount (1#72 <<< a ||| 1#72 <<< b) = 2 := by
  have hbits : errorCount (1#72 <<< a ||| 1#72 <<< b) =
      (List.range 72).countP fun i => decide (i = a) || decide (i = b) := by
    refine List.countP_congr fun i hi => ?_
    rw [BitVec.getLsbD_or, getLsbD_one_shift (List.mem_range.1 hi), getLsbD_one_shift (List.mem_range.1 hi)]
  have hdiffer := countP_range_of_lt (n := b) (p := fun i => decide (i = a))
    (q := fun i => decide (i = a) || decide (i = b)) hb fun m hm => by simp [hm]
  have hfirst := countP_range_eq (N := 72) (a := a) (by omega)
  simp only [decide_true, Bool.or_true, if_true, decide_eq_true_eq, if_neg (show ¬b = a by omega)] at hdiffer
  omega

/-! ### The copy formed, by the condition of the image (R91 to R93, R95, R96, R99, R100) -/

/-- Word 0 can be read. -/
def firstReadable (checks : List WordCheck) : Bool := (checks.headD .uncorrectable).readable

/-- The record state that word 0 names. -/
def imageState (checks : List WordCheck) : Option RecState :=
  RecState.ofCode (((checks.headD .uncorrectable).dataOr 0).extractLsb' 0 3)

/-- A word is uncorrectable. -/
def someLost (checks : List WordCheck) : Bool := checks.any fun c => !c.readable

/-- How many words are corrected. -/
def fixedWords (checks : List WordCheck) : Nat := checks.countP WordCheck.wasCorrected

/-- A word is corrected or uncorrectable. -/
def anyBad (checks : List WordCheck) : Bool := decide (0 < fixedWords checks) || someLost checks

/-- The record as the words give it. -/
def recordRead (use : Nat) (checks : List WordCheck) : Record :=
  decodeRecord ((imageState checks).getD .vacant) (usedWords use checks)

/-- The image gives no record that a read can use (R92). -/
def Unusable (use : Nat) (checks : List WordCheck) : Prop :=
  someLost checks = true ∨ imageState checks = none ∨ imageState checks = some .vacant ∨
    (recordRead use checks).outOfRange = true

section

variable {source : FaultSource} {use : Nat} {checks : List WordCheck}

/-- A fill of a clear map entry (R91). -/
theorem formCopy_of_clear (source : FaultSource) (use : Nat) (checks : List WordCheck) :
    formCopy source true use checks =
      { copy := vacantCopy use checks, becameFaulted := false, corrected := fixedWords checks,
        dirty := anyBad checks || imageState checks != some .vacant, repair := anyBad checks } := rfl

/-- An image already FAULTED (R93). -/
theorem formCopy_of_faulted (source : FaultSource) (use : Nat) (h : firstReadable checks = true)
    (hs : imageState checks = some .faulted) :
    formCopy source false use checks =
      { copy := faultedCopy (recordRead use checks).generation (recordRead use checks).generationKnown
          (recordRead use checks).owed (recordRead use checks).faultSource (recordRead use checks).owedLost,
        becameFaulted := false, corrected := fixedWords checks, dirty := anyBad checks,
        repair := decide (0 < fixedWords checks) } := by
  unfold firstReadable at h
  unfold imageState at hs
  simp only [formCopy, h, hs, Bool.false_eq_true, if_false, beq_self_eq_true, Bool.and_self, if_true]
  simp only [recordRead, imageState, hs]
  rfl

/-- A RESUME read of a VACANT image (R99). -/
theorem formCopy_of_vacant (use : Nat) (h : firstReadable checks = true)
    (hs : imageState checks = some .vacant) :
    formCopy .resume false use checks =
      { copy := vacantCopy use checks, becameFaulted := false, corrected := fixedWords checks, dirty := anyBad checks,
        repair := anyBad checks } := by
  unfold firstReadable at h
  unfold imageState at hs
  simp only [formCopy, h, hs]
  rfl

/-- Neither FAULTED nor, at a RESUME read, VACANT, by a readable word 0. -/
def Judged (source : FaultSource) (checks : List WordCheck) : Prop :=
  firstReadable checks = true → imageState checks ≠ some .faulted ∧
    (source = .resume → imageState checks ≠ some .vacant)

theorem unusable_iff (use : Nat) (checks : List WordCheck) :
    (someLost checks || imageState checks == none || imageState checks == some .vacant ||
      (recordRead use checks).outOfRange) = true ↔ Unusable use checks := by
  simp only [Unusable, Bool.or_eq_true, beq_iff_eq, or_assoc]

/-- A read that is not of a clear map entry, of a FAULTED image or, in a RESUME, of a VACANT one. -/
theorem formCopy_of_judged (use : Nat) (h : Judged source checks) :
    formCopy source false use checks =
      if someLost checks || imageState checks == none || imageState checks == some .vacant ||
          (recordRead use checks).outOfRange then
        { copy := faultedCopy (if firstReadable checks then (recordRead use checks).generation else 65535#16)
            (firstReadable checks) ((recoverOwed 0 checks).getD .empty) source (recoverOwed 0 checks).isNone,
          becameFaulted := true, corrected := fixedWords checks, dirty := true, repair := true }
      else
        { copy := recordRead use checks, becameFaulted := false, corrected := fixedWords checks, dirty := anyBad checks,
          repair := anyBad checks } := by
  have hfaulted : ¬(firstReadable checks && imageState checks == some .faulted) = true := by
    rw [Bool.and_eq_true, beq_iff_eq]
    exact fun ⟨hread, hstate⟩ => (h hread).1 hstate
  have hvacant : ¬(source == .resume && firstReadable checks && imageState checks == some .vacant) = true := by
    rw [Bool.and_eq_true, Bool.and_eq_true, beq_iff_eq, beq_iff_eq]
    exact fun ⟨⟨hsource, hread⟩, hstate⟩ => (h hread).2 hsource hstate
  unfold formCopy
  dsimp only
  rw [if_neg Bool.false_ne_true]
  exact (if_neg hfaulted).trans (if_neg hvacant)

/-- A read that makes the record FAULTED (R92, R95). -/
theorem formCopy_of_unusable (h : Judged source checks) (hu : Unusable use checks) :
    formCopy source false use checks =
      { copy := faultedCopy (if firstReadable checks then (recordRead use checks).generation else 65535#16)
          (firstReadable checks) ((recoverOwed 0 checks).getD .empty) source (recoverOwed 0 checks).isNone,
        becameFaulted := true, corrected := fixedWords checks, dirty := true, repair := true } := by
  rw [formCopy_of_judged use h, if_pos ((unusable_iff use checks).2 hu)]

theorem someLost_of_usable (hu : ¬Unusable use checks) : someLost checks = false := by
  by_contra hlost
  exact hu (.inl (by simpa using hlost))

/-- Every other read gives the record that the image holds (R96). -/
theorem formCopy_of_usable (h : Judged source checks) (hu : ¬Unusable use checks) :
    formCopy source false use checks =
      { copy := recordRead use checks, becameFaulted := false, corrected := fixedWords checks,
        dirty := decide (0 < fixedWords checks), repair := decide (0 < fixedWords checks) } := by
  rw [formCopy_of_judged use h, if_neg (mt (unusable_iff use checks).1 hu), anyBad, someLost_of_usable hu,
    Bool.or_false]

/-! ### The words that a read uses -/

theorem dataOr_of_readable {c : WordCheck} (h : c.readable = true) (a b : DataWord) : c.dataOr a = c.dataOr b := by
  cases c with
  | clean _ => rfl
  | corrected _ => rfl
  | uncorrectable => cases h

theorem usedWords_first (use : Nat) (h : firstReadable checks = true) :
    (usedWords use checks).getD 0 0 = (checks.headD .uncorrectable).dataOr 0 := by
  cases checks with
  | nil => cases h
  | cons c t => exact dataOr_of_readable h _ _

theorem usedWords_of_readable (use : Nat) (h : someLost checks = false) :
    usedWords use checks = checks.map (WordCheck.dataOr 0) := by
  have hread : ∀ p ∈ checks.zipIdx, p.1.dataOr (Config.lostWord use p.2) = p.1.dataOr 0 := fun p hp => by
    have hmem : p.1 ∈ checks := List.fst_mem_of_mem_zipIdx hp
    have hreadable := List.any_eq_false.1 h p.1 hmem
    exact dataOr_of_readable (by simpa using hreadable) _ _
  have hfst : checks.zipIdx.map Prod.fst = checks := List.zipIdx_map_fst _ _
  rw [usedWords, List.map_congr_left hread]
  conv_rhs => rw [← hfst, List.map_map]
  rfl

end

/-! ### The owed set recovered (R92) -/

theorem recoverOwed_at {i k : Nat} {l : List WordCheck} {c : WordCheck} (hc : l[k]? = some c) (hread : c.readable = true)
    (hbefore : ∀ j a, j < k → l[j]? = some a → a.readable = false) :
    recoverOwed i l = some (owedCopy (i + k) (c.dataOr 0)) := by
  induction l generalizing i k with
  | nil => cases hc
  | cons a t ih =>
    cases k with
    | zero =>
      obtain rfl : a = c := by simpa using hc
      rw [recoverOwed, if_pos hread]
      rfl
    | succ k =>
      have ha := hbefore 0 a (Nat.succ_pos k) rfl
      rw [recoverOwed, if_neg (by rw [ha]; exact Bool.false_ne_true),
        ih (k := k) (by simpa using hc) fun j b hj hb => hbefore (j + 1) b (by omega) (by simpa using hb),
        Nat.add_assoc, Nat.add_comm 1 k]

theorem recoverOwed_lost {i : Nat} {l : List WordCheck} (h : ∀ c ∈ l, c.readable = false) : recoverOwed i l = none := by
  cases hrec : recoverOwed i l with
  | none => rfl
  | some o =>
    obtain ⟨j, c, hj, hread, -⟩ := recoverOwed_some hrec
    rw [h c (List.mem_of_getElem? hj)] at hread
    cases hread

/-! ### A read by the condition of each word -/

/-- The sixteen checks of an image. -/
def checksOf (check : Nat → WordCheck) : List WordCheck := (List.range 16).map check

/-- The sixteen data words, an uncorrectable one as 0. -/
def wordsOf (check : Nat → WordCheck) : List DataWord := (List.range 16).map fun k => (check k).dataOr 0

/-- The code in the state field of word 0. -/
def codeOf (check : Nat → WordCheck) : BitVec 3 := ((wordsOf check).getD 0 0).extractLsb' 0 3

/-- A field of the record is outside its range (R92). -/
def WrongFields (r : Record) : Prop :=
  r.depth.toNat < 4096 ∨ r.depth.toNat < r.budget.toNat ∨ 1 < r.peakAction.toNat ∨ 1 < r.sustainedAction.toNat ∨
    r.idleLimit = some 0 ∨ r.alertThreshold = some 0

theorem outOfRange_iff (r : Record) : r.outOfRange = true ↔ WrongFields r := by
  simp only [Record.outOfRange, WrongFields, Bool.or_eq_true, decide_eq_true_eq, beq_iff_eq, or_assoc]

theorem ofCode_vacant (c : BitVec 3) : RecState.ofCode c = some .vacant ↔ c = 0 := by
  revert c
  decide

theorem ofCode_faulted (c : BitVec 3) : RecState.ofCode c = some .faulted ↔ c = 4 := by
  revert c
  decide

section

variable (check : Nat → WordCheck)

theorem firstReadable_checksOf : firstReadable (checksOf check) = (check 0).readable := rfl

theorem imageState_checksOf : imageState (checksOf check) = RecState.ofCode (codeOf check) := rfl

theorem fixedWords_checksOf :
    fixedWords (checksOf check) = (List.range 16).countP fun k => (check k).wasCorrected := List.countP_map

theorem someLost_checksOf : someLost (checksOf check) = true ↔ ∃ k, k < 16 ∧ ¬(check k).readable = true := by
  simp [someLost, checksOf]

theorem anyBad_checksOf :
    anyBad (checksOf check) = true ↔
      (0 < (List.range 16).countP fun k => (check k).wasCorrected) ∨ ∃ k, k < 16 ∧ ¬(check k).readable = true := by
  rw [anyBad, Bool.or_eq_true, decide_eq_true_eq, fixedWords_checksOf, someLost_checksOf]

theorem getElem?_checksOf {k : Nat} {c : WordCheck} : (checksOf check)[k]? = some c ↔ k < 16 ∧ c = check k := by
  rw [checksOf, List.getElem?_map, Option.map_eq_some_iff]
  constructor
  · rintro ⟨a, ha, rfl⟩
    obtain ⟨hk, rfl⟩ := List.getElem?_eq_some_iff.1 ha
    rw [List.getElem_range]
    exact ⟨by simpa using hk, rfl⟩
  · rintro ⟨hk, rfl⟩
    exact ⟨k, List.getElem?_range hk, rfl⟩

theorem getD_wordsOf {k : Nat} (hk : k < 16) : (wordsOf check).getD k 0 = (check k).dataOr 0 := by
  simp [wordsOf, List.getElem?_range hk]

variable {check}

theorem usedWords_checksOf (use : Nat) (h : ¬∃ k, k < 16 ∧ ¬(check k).readable = true) :
    usedWords use (checksOf check) = wordsOf check := by
  have hread : someLost (checksOf check) = false := by rwa [← someLost_checksOf, Bool.not_eq_true] at h
  rw [usedWords_of_readable use hread, checksOf, List.map_map]
  rfl

theorem recordRead_checksOf (use : Nat) (h : ¬∃ k, k < 16 ∧ ¬(check k).readable = true) {st : RecState}
    (hst : RecState.ofCode (codeOf check) = some st) :
    recordRead use (checksOf check) = decodeRecord st (wordsOf check) := by
  rw [recordRead, imageState_checksOf, hst, usedWords_checksOf use h]
  rfl

/-- What makes a record FAULTED at a read (R92). -/
theorem unusable_checksOf (use : Nat) :
    Unusable use (checksOf check) ↔
      (∃ k, k < 16 ∧ ¬(check k).readable = true) ∨ codeOf check = 0 ∨ RecState.ofCode (codeOf check) = none ∨
        ∀ st, RecState.ofCode (codeOf check) = some st → WrongFields (decodeRecord st (wordsOf check)) := by
  rw [Unusable, someLost_checksOf, imageState_checksOf, ofCode_vacant, outOfRange_iff]
  by_cases hlost : ∃ k, k < 16 ∧ ¬(check k).readable = true
  · exact iff_of_true (.inl hlost) (.inl hlost)
  · cases hst : RecState.ofCode (codeOf check) with
    | none => simp
    | some st =>
      rw [recordRead_checksOf use hlost hst]
      simp

/-- The owed set recovered is that of the lowest-numbered readable word. -/
theorem recoverOwed_checksOf {k : Nat} (hk : k < 16) (hread : (check k).readable = true)
    (hfirst : ∀ j, j < k → ¬(check j).readable = true) :
    recoverOwed 0 (checksOf check) = some (owedCopy k ((wordsOf check).getD k 0)) := by
  rw [getD_wordsOf check hk, recoverOwed_at ((getElem?_checksOf check).2 ⟨hk, rfl⟩) hread, Nat.zero_add]
  intro j a hj ha
  rw [((getElem?_checksOf check).1 ha).2]
  simpa using hfirst j hj

theorem recoverOwed_checksOf_none :
    recoverOwed 0 (checksOf check) = none ↔ ∀ k, k < 16 → ¬(check k).readable = true := by
  constructor
  · intro h k hk
    have hlost := recoverOwed_none h (check k) (List.mem_map.2 ⟨k, List.mem_range.2 hk, rfl⟩)
    rw [hlost]
    exact Bool.false_ne_true
  · intro h
    refine recoverOwed_lost fun c hc => ?_
    obtain ⟨k, hk, rfl⟩ := List.mem_map.1 hc
    simpa using h k (List.mem_range.1 hk)

theorem recoverOwed_checksOf_isNone :
    (recoverOwed 0 (checksOf check)).isNone = (List.range 16).all fun k => !(check k).readable := by
  rw [Bool.eq_iff_iff, Option.isNone_iff_eq_none, recoverOwed_checksOf_none]
  simp

/-! #### The copy, clause by clause -/

theorem formCopy_corrected (source : FaultSource) (vacant : Bool) (use : Nat) (checks : List WordCheck) :
    (formCopy source vacant use checks).corrected = fixedWords checks := by
  unfold formCopy
  dsimp only
  repeat' split
  all_goals rfl

theorem generation_decodeRecord (use : Nat) (st : RecState) (h : (check 0).readable = true) :
    (decodeRecord st (usedWords use (checksOf check))).generation = ((wordsOf check).getD 0 0).extractLsb' 16 16 := by
  have hfirst := usedWords_first (checks := checksOf check) use h
  exact congrArg (fun w : DataWord => w.extractLsb' 16 16) hfirst

/-- The copy of a fill of a clear map entry (R91). -/
theorem copy_of_clear (source : FaultSource) (use : Nat) {x : Formed}
    (hx : x = formCopy source true use (checksOf check)) :
    x.becameFaulted = false ∧ x.copy.state = .vacant ∧ x.copy.owed = ⟨false, false, false, false⟩ ∧
      ((check 0).readable = true → x.copy.generation = ((wordsOf check).getD 0 0).extractLsb' 16 16) ∧
      (¬(check 0).readable = true → x.copy.generation = 0) ∧
      (x.dirty = true ↔ (0 < (List.range 16).countP fun k => (check k).wasCorrected) ∨
        (∃ k, k < 16 ∧ ¬(check k).readable = true) ∨ codeOf check ≠ 0) := by
  subst hx
  rw [formCopy_of_clear]
  refine ⟨rfl, rfl, rfl, fun h => ?_, fun h => if_neg h, ?_⟩
  · exact (if_pos h).trans (generation_decodeRecord use .vacant h)
  · rw [Bool.or_eq_true, anyBad_checksOf, imageState_checksOf, bne_iff_ne, Ne, ofCode_vacant, or_assoc]

/-- The copy of an image already FAULTED (R93). -/
theorem copy_of_faulted (source : FaultSource) (use : Nat) {x : Formed}
    (hx : x = formCopy source false use (checksOf check)) (h : (check 0).readable = true) (hcode : codeOf check = 4) :
    x.becameFaulted = false ∧
      x.copy =
        { Record.blank with
          state := .faulted, generation := ((wordsOf check).getD 0 0).extractLsb' 16 16,
          generationKnown := ((wordsOf check).getD 0 0).getLsbD 3, owed := owedCopy 0 ((wordsOf check).getD 0 0),
          faultSource := .ofCode (((wordsOf check).getD 0 0).extractLsb' 8 2),
          owedLost := ((wordsOf check).getD 0 0).getLsbD 10 } ∧
      (x.dirty = true ↔ (0 < (List.range 16).countP fun k => (check k).wasCorrected) ∨
        ∃ k, k < 16 ∧ ¬(check k).readable = true) ∧
      (x.repair = true ↔ 0 < (List.range 16).countP fun k => (check k).wasCorrected) := by
  subst hx
  rw [formCopy_of_faulted (checks := checksOf check) source use h ((ofCode_faulted _).2 hcode)]
  have hfirst : (usedWords use (checksOf check)).getD 0 0 = (wordsOf check).getD 0 0 :=
    usedWords_first (checks := checksOf check) use h
  refine ⟨rfl, ?_, anyBad_checksOf check, ?_⟩
  · simp only [recordRead, decodeRecord, hfirst]
    rfl
  · rw [decide_eq_true_eq, fixedWords_checksOf]

/-- The copy of a VACANT image at a RESUME read (R99). -/
theorem copy_of_vacant (use : Nat) {x : Formed} (hx : x = formCopy .resume false use (checksOf check))
    (h : (check 0).readable = true) (hcode : codeOf check = 0) :
    x.becameFaulted = false ∧ x.copy.state = .vacant ∧ x.copy.owed = ⟨false, false, false, false⟩ ∧
      x.copy.generation = ((wordsOf check).getD 0 0).extractLsb' 16 16 ∧
      (x.repair = true ↔ (0 < (List.range 16).countP fun k => (check k).wasCorrected) ∨
        ∃ k, k < 16 ∧ ¬(check k).readable = true) := by
  subst hx
  rw [formCopy_of_vacant (checks := checksOf check) use h ((ofCode_vacant _).2 hcode)]
  exact ⟨rfl, rfl, rfl, (if_pos h).trans (generation_decodeRecord use .vacant h), anyBad_checksOf check⟩

theorem judged_checksOf {source : FaultSource}
    (h : ¬((check 0).readable = true ∧ (codeOf check = 4 ∨ (source = .resume ∧ codeOf check = 0)))) :
    Judged source (checksOf check) := fun hread => by
  rw [imageState_checksOf, Ne, Ne, ofCode_faulted, ofCode_vacant]
  exact ⟨fun hcode => h ⟨hread, .inl hcode⟩, fun hsource hcode => h ⟨hread, .inr ⟨hsource, hcode⟩⟩⟩

/-- The copy of a read that makes the record FAULTED (R92, R95). -/
theorem copy_of_unusable {source : FaultSource} {use : Nat} {x : Formed}
    (hx : x = formCopy source false use (checksOf check)) (hj : Judged source (checksOf check))
    (hu : Unusable use (checksOf check)) :
    x.becameFaulted = true ∧ x.dirty = true ∧ x.repair = true ∧
      ∃ owed,
        x.copy =
          { Record.blank with
            state := .faulted
            generation := if (check 0).readable then ((wordsOf check).getD 0 0).extractLsb' 16 16 else 65535
            generationKnown := (check 0).readable, owed := owed, faultSource := source
            owedLost := (List.range 16).all fun k => !(check k).readable } ∧
        (∀ k, k < 16 → (check k).readable = true → (∀ j, j < k → ¬(check j).readable = true) →
          owed = owedCopy k ((wordsOf check).getD k 0)) ∧
        ((∀ k, k < 16 → ¬(check k).readable = true) → owed = ⟨false, false, false, false⟩) := by
  subst hx
  rw [formCopy_of_unusable hj hu, recoverOwed_checksOf_isNone, firstReadable_checksOf]
  refine ⟨rfl, rfl, rfl, (recoverOwed 0 (checksOf check)).getD .empty, ?_, fun k hk hread hfirst => ?_, fun hlost => ?_⟩
  · cases h : (check 0).readable with
    | false => rfl
    | true =>
      have hgeneration := generation_decodeRecord use ((imageState (checksOf check)).getD .vacant) h
      simp only [if_true, recordRead, hgeneration]
      rfl
  · rw [recoverOwed_checksOf hk hread hfirst]
    rfl
  · rw [recoverOwed_checksOf_none.2 hlost]
    rfl

/-- The copy of a read that gives the record as the image holds it (R96). -/
theorem copy_of_usable {source : FaultSource} {use : Nat} {x : Formed}
    (hx : x = formCopy source false use (checksOf check)) (hj : Judged source (checksOf check))
    (hu : ¬Unusable use (checksOf check)) :
    x.becameFaulted = false ∧
      (∀ st, RecState.ofCode (codeOf check) = some st → x.copy = decodeRecord st (wordsOf check)) ∧
      (x.dirty = true ↔ 0 < (List.range 16).countP fun k => (check k).wasCorrected) ∧
      (x.repair = true ↔ 0 < (List.range 16).countP fun k => (check k).wasCorrected) := by
  subst hx
  rw [formCopy_of_usable hj hu]
  have hread : ¬∃ k, k < 16 ∧ ¬(check k).readable = true := fun h => hu ((unusable_checksOf use).2 (.inl h))
  refine ⟨rfl, fun st hst => recordRead_checksOf use hread hst, ?_, ?_⟩ <;> rw [decide_eq_true_eq, fixedWords_checksOf]

end

/-- A read of an image, by the condition of each of its words. -/
theorem readImage_by_checks {s t : State} {n : Nat} {source : FaultSource} {vacant : Bool} {damage : Damage}
    {x : Formed}
    {check : Nat → WordCheck} (h : readImage s n source vacant damage = (t, x))
    (hcheck : ∀ k, check k =
      checkWord ((s.memory.addDamage n damage).readWord (16 * n + k))
        ((s.memory.addDamage n damage).errorAt (16 * n + k))) :
    x = formCopy source vacant s.freeIndex (checksOf check) ∧
      t = countRead { s with memory := s.memory.addDamage n damage, freeIndex := s.freeIndex + 1 } x := by
  have hchecks : (s.memory.addDamage n damage).checkImage n = checksOf check :=
    List.map_congr_left fun k _ => (hcheck k).symm
  rw [readImage, hchecks] at h
  cases h
  exact ⟨rfl, rfl⟩

/-! ### The read of an image that the part has written -/

/-- The checks of an image written for `r`, of whose words these bits are in error. -/
def writtenCheck (r : Record) (e : Nat → ErrorMask) (k : Nat) : WordCheck := checkWord ((encodeImage r).getD k 0) (e k)

theorem wasCorrected_checkWord {d : DataWord} {e : ErrorMask} (h : errorCount e ≤ 2) :
    (checkWord d e).wasCorrected = decide (errorCount e = 1) := by
  obtain hc | hc | hc : errorCount e = 0 ∨ errorCount e = 1 ∨ errorCount e = 2 := by omega
  · rw [checkWord_clean hc, hc]
    rfl
  · rw [checkWord_corrected hc, hc]
    rfl
  · rw [checkWord_uncorrectable hc, hc]
    rfl

theorem identityWord_generation (r : Record) : (identityWord r).extractLsb' 16 16 = r.generation := by
  simp (disch := omega) only [identityWord, BitVec.extractLsb'_append_eq_of_le, BitVec.extractLsb'_append_eq_of_add_le,
    BitVec.extractLsb'_eq_self, Nat.reduceSub]

section

variable {r : Record} {e : Nat → ErrorMask}

theorem fixed_writtenCheck (h : ∀ k, k < 16 → errorCount (e k) ≤ 2) :
    ((List.range 16).countP fun k => (writtenCheck r e k).wasCorrected) =
      (List.range 16).countP fun k => decide (errorCount (e k) = 1) :=
  List.countP_congr fun k hk => by rw [writtenCheck, wasCorrected_checkWord (h k (List.mem_range.1 hk))]

theorem getD_wordsOf_writtenCheck {k : Nat} (hk : k < 16) (h : errorCount (e k) ≤ 1) :
    (wordsOf (writtenCheck r e)).getD k 0 = (encodeImage r).getD k 0 := by
  obtain ⟨hread, hdata⟩ := checkWord_of_le_two (d := (encodeImage r).getD k 0) (e := e k) (by omega)
  rw [getD_wordsOf _ hk]
  exact hdata (hread.2 h) 0

theorem codeOf_writtenCheck (h : errorCount (e 0) ≤ 1) : codeOf (writtenCheck r e) = r.state.code := by
  rw [codeOf, getD_wordsOf_writtenCheck (by decide) h]
  exact identityWord_code r

theorem wordsOf_writtenCheck (h : ∀ k, k < 16 → errorCount (e k) ≤ 1) :
    wordsOf (writtenCheck r e) = encodeImage r := by
  refine List.ext_getElem (by rw [length_encodeImage]; rfl) fun k h1 h2 => ?_
  have hk : k < 16 := by rwa [length_encodeImage] at h2
  have hword := getD_wordsOf_writtenCheck (r := r) hk (h k hk)
  rwa [List.getD_eq_getElem _ _ h1, List.getD_eq_getElem _ _ h2] at hword

theorem admitted_code (h : r.admitted = true) : r.state.code ≠ 0 ∧ r.state.code ≠ 4 ∧ r.state ≠ .faulted := by
  cases hs : r.state with
  | vacant => simp [Record.admitted, hs] at h
  | faulted => simp [Record.admitted, hs] at h
  | active => decide
  | held => decide
  | expired => decide

theorem judged_writtenCheck (ha : r.admitted = true) {source : FaultSource}
    (h0 : (writtenCheck r e 0).readable = true → errorCount (e 0) ≤ 1) :
    Judged source (checksOf (writtenCheck r e)) := by
  obtain ⟨hvacant, hfaulted, -⟩ := admitted_code ha
  refine judged_checksOf ?_
  rintro ⟨hread, hcode⟩
  rw [codeOf_writtenCheck (h0 hread)] at hcode
  tauto

/-- With no more than one bit in error in a word, the read brings the admitted record back (R90, R96). -/
theorem formCopy_writtenCheck (ha : r.admitted = true) (hr : r.outOfRange = false)
    (h : ∀ k, k < 16 → errorCount (e k) ≤ 1) (source : FaultSource) (use : Nat) {fixed : Nat}
    (hfixed : ((List.range 16).countP fun k => decide (errorCount (e k) = 1)) = fixed) :
    formCopy source false use (checksOf (writtenCheck r e)) =
      { copy := r, becameFaulted := false, corrected := fixed, dirty := decide (0 < fixed),
        repair := decide (0 < fixed) } := by
  obtain ⟨hvacant, -, hfaulted⟩ := admitted_code ha
  have h0 := h 0 (by decide)
  have hstate : RecState.ofCode (codeOf (writtenCheck r e)) = some r.state := by
    rw [codeOf_writtenCheck h0, ofCode_code]
  have hread : ¬∃ k, k < 16 ∧ ¬(writtenCheck r e k).readable = true := by
    rintro ⟨k, hk, hlost⟩
    exact hlost ((checkWord_of_le_two (by have := h k hk; omega)).1.2 (h k hk))
  have husable : ¬Unusable use (checksOf (writtenCheck r e)) := by
    rw [unusable_checksOf, hstate, codeOf_writtenCheck h0, wordsOf_writtenCheck h]
    rintro (hlost | hcode | hnone | hwrong)
    · exact hread hlost
    · exact hvacant hcode
    · cases hnone
    · have hout := (outOfRange_iff _).2 (hwrong r.state rfl)
      rw [decodeRecord_encodeImage hfaulted, hr] at hout
      cases hout
  rw [formCopy_of_usable (judged_writtenCheck ha fun _ => h0) husable, recordRead_checksOf use hread hstate,
    wordsOf_writtenCheck h, decodeRecord_encodeImage hfaulted, fixedWords_checksOf,
    fixed_writtenCheck fun k hk => by have := h k hk; omega, hfixed]

/-- With one word lost, the read makes the admitted record FAULTED, its owed set recovered (R92). -/
theorem formCopy_writtenCheck_lost (ha : r.admitted = true) {word : Nat} (hword : word < 16)
    (hlost : errorCount (e word) = 2) (hclean : ∀ k, k ≠ word → errorCount (e k) = 0) (source : FaultSource) (use : Nat)
    {x : Formed} (hx : x = formCopy source false use (checksOf (writtenCheck r e))) :
    x.becameFaulted = true ∧ x.dirty = true ∧ x.corrected = 0 ∧
      x.copy =
        { Record.blank with
          state := .faulted, generation := if word = 0 then 65535 else r.generation,
          generationKnown := decide (word ≠ 0), owed := r.owed, faultSource := source, owedLost := false } := by
  have hle (k : Nat) : errorCount (e k) ≤ 2 := by
    by_cases hk : k = word
    · rw [hk, hlost]
    · rw [hclean k hk]
      omega
  have hread (k : Nat) : (writtenCheck r e k).readable = true ↔ k ≠ word := by
    refine (checkWord_of_le_two (hle k)).1.trans ⟨fun h1 hk => ?_, fun hk => ?_⟩
    · rw [hk, hlost] at h1
      omega
    · rw [hclean k hk]
      omega
  have hunusable : Unusable use (checksOf (writtenCheck r e)) :=
    (unusable_checksOf use).2 (.inl ⟨word, hword, by rw [hread]; simp⟩)
  have hjudged : Judged source (checksOf (writtenCheck r e)) :=
    judged_writtenCheck ha fun h0 => by rw [hclean 0 ((hread 0).1 h0)]; omega
  obtain ⟨hbecame, hdirty, -, owed, hcopy, howed, -⟩ := copy_of_unusable hx hjudged hunusable
  obtain ⟨k, hk, hkword, hfirst⟩ : ∃ k, k < 16 ∧ k ≠ word ∧ ∀ j, j < k → j = word := by
    by_cases h0 : word = 0
    · exact ⟨1, by decide, by omega, fun j hj => by omega⟩
    · exact ⟨0, by decide, fun h => h0 h.symm, fun j hj => by omega⟩
  have hsame : owed = r.owed := by
    rw [howed k hk ((hread k).2 hkword) fun j hj => by rw [hread]; simp [hfirst j hj],
      getD_wordsOf_writtenCheck hk (by rw [hclean k hkword]; omega), owedCopy_encodeImage r hk]
  have hall : ((List.range 16).all fun k => !(writtenCheck r e k).readable) = false :=
    List.all_eq_false.2 ⟨k, List.mem_range.2 hk, by simp [(hread k).2 hkword]⟩
  have hknown : (writtenCheck r e 0).readable = decide (word ≠ 0) := by
    rw [Bool.eq_iff_iff, hread, decide_eq_true_eq, ne_comm]
  have hgeneration : (if (writtenCheck r e 0).readable then ((wordsOf (writtenCheck r e)).getD 0 0).extractLsb' 16 16
      else 65535) = if word = 0 then 65535 else r.generation := by
    by_cases h0 : word = 0
    · rw [if_pos h0, if_neg (by rw [hread]; omega)]
    · rw [if_neg h0, if_pos ((hread 0).2 fun h => h0 h.symm),
        getD_wordsOf_writtenCheck (by decide) (by rw [hclean 0 fun h => h0 h.symm]; omega)]
      exact identityWord_generation r
  refine ⟨hbecame, hdirty, ?_, ?_⟩
  · rw [hx, formCopy_corrected, fixedWords_checksOf, fixed_writtenCheck fun k _ => hle k, List.countP_eq_zero]
    intro k _
    by_cases hk : k = word
    · simp [hk, hlost]
    · simp [hclean k hk]
  · rw [hcopy, hgeneration, hsame, hall, hknown]

end

/-- The bits `e` of one word in error. -/
def inWord (word : Nat) (e : ErrorMask) (k : Nat) : ErrorMask := if k = word then e else 0

/-- The read of an image just written, with one word damaged. -/
theorem readImage_written {s : State} {n : Nat} (hn : n < Config.maxRecords) (r : Record) (source : FaultSource)
    {word : Nat} (hword : word < 16) (e : ErrorMask) {damage : Damage}
    (hdamage : damage = [(word, e)] ∨ damage = [] ∧ e = 0) :
    (readImage (writeImage s n r) n source false damage).2 =
      formCopy source false s.freeIndex (checksOf (writtenCheck r (inWord word e))) := by
  obtain ⟨hwords, -, -⟩ := writeImage_words s.memory hn r
  have himage := Memory.image_in_memory hn
  have herror (k : Nat) (hk : k < 16) :
      (((writeImage s n r).memory.addDamage n damage).errorAt (16 * n + k)) = inWord word e k := by
    have hold : (writeImage s n r).memory.errorAt (16 * n + k) = 0 := (hwords k hk).2
    obtain rfl | ⟨rfl, rfl⟩ := hdamage
    · have hnew : (writeImage s n r).memory.errorAt (16 * n + word) = 0 := (hwords word hword).2
      simp only [Memory.addDamage, List.foldl_cons, List.foldl_nil, if_pos hword]
      rw [Memory.errorAt_setError, hold, hnew, inWord]
      by_cases hk' : k = word
      · rw [if_pos hk', if_pos ⟨by omega, by omega⟩]
        exact BitVec.zero_xor
      · rw [if_neg hk', if_neg (by omega)]
    · rw [inWord, ite_self]
      exact hold
  have hchecks : ((writeImage s n r).memory.addDamage n damage).checkImage n =
      checksOf (writtenCheck r (inWord word e)) := by
    refine List.map_congr_left fun k hk => ?_
    have hk16 := List.mem_range.1 hk
    have hword : (writeImage s n r).memory.readWord (16 * n + k) = (encodeImage r).getD k 0 := (hwords k hk16).1
    rw [readWord_addDamage, hword, herror k hk16]
    rfl
  rw [← hchecks]
  rfl

theorem errorCount_inWord_le {word : Nat} {e : ErrorMask} {b : Nat} (h : errorCount e ≤ b) (k : Nat) :
    errorCount (inWord word e k) ≤ b := by
  unfold inWord
  split
  · exact h
  · rw [errorCount_none]
    exact Nat.zero_le b

/-- What a write has put in the memory comes back whole, also with one bit of one word in error (R89, R90, R96). -/
theorem readImage_written_back {s : State} {n : Nat} {r : Record} (source : FaultSource) (hn : n < Config.maxRecords)
    (ha : r.admitted = true) (hr : r.outOfRange = false) :
    ((readImage (writeImage s n r) n source false []).2 =
      { copy := r, becameFaulted := false, corrected := 0, dirty := false, repair := false }) ∧
    ∀ (word : Nat) (bit : Nat), word < 16 → bit < 72 →
      (readImage (writeImage s n r) n source false [(word, 1#72 <<< bit)]).2 =
        { copy := r, becameFaulted := false, corrected := 1, dirty := true, repair := true } := by
  refine ⟨?_, fun word bit hword hbit => ?_⟩
  · rw [readImage_written hn r source (word := 0) (by decide) 0 (.inr ⟨rfl, rfl⟩)]
    refine formCopy_writtenCheck ha hr (fun k _ => errorCount_inWord_le (by rw [errorCount_none]; omega) k) source _ ?_
    refine List.countP_eq_zero.2 fun k _ => ?_
    rw [inWord, ite_self, errorCount_none]
    decide
  · have hone := errorCount_one hbit
    rw [readImage_written hn r source hword _ (.inl rfl)]
    refine formCopy_writtenCheck ha hr (fun k _ => errorCount_inWord_le (by rw [hone]) k) source _ ?_
    refine Eq.trans (List.countP_congr fun k _ => ?_) (countP_range_eq hword)
    unfold inWord
    by_cases hk : k = word
    · simp [hk, hone]
    · rw [if_neg hk, errorCount_none]
      simp [hk]

/-- The counters after a read that made the record FAULTED and corrected no word (R86). -/
theorem readImage_stats_lost {s : State} {n : Nat} {source : FaultSource} {vacant : Bool} {damage : Damage}
    (hbecame : (readImage s n source vacant damage).2.becameFaulted = true)
    (hcorrected : (readImage s n source vacant damage).2.corrected = 0) :
    (readImage s n source vacant damage).1.stats =
      { s.stats with uncorrectableErrors := s.stats.uncorrectableErrors + 1 } := by
  have hstats : (readImage s n source vacant damage).1.stats =
      (countRead s (readImage s n source vacant damage).2).stats := rfl
  rw [hstats, countRead, hbecame, hcorrected]
  simp

/-- With two bits in error in a word the record read becomes FAULTED, and one uncorrectable error is counted (R90,
R92). -/
theorem readImage_written_lost {s : State} {n : Nat} {r : Record} (source : FaultSource) {word a b : Nat}
    (hn : n < Config.maxRecords) (ha : r.admitted = true) (hword : word < 16) (hab : a < b) (hb : b < 72) :
    ∃ t f, readImage (writeImage s n r) n source false [(word, 1#72 <<< a ||| 1#72 <<< b)] = (t, f) ∧
      f.becameFaulted = true ∧ f.dirty = true ∧
      f.copy =
        { Record.blank with
          state := .faulted, generation := if word = 0 then 65535 else r.generation,
          generationKnown := decide (word ≠ 0), owed := r.owed, faultSource := source, owedLost := false } ∧
      t.stats = { s.stats with uncorrectableErrors := s.stats.uncorrectableErrors + 1 } := by
  obtain ⟨hbecame, hdirty, hcorrected, hcopy⟩ := formCopy_writtenCheck_lost ha hword
    (by rw [inWord, if_pos rfl, errorCount_two hab hb])
    (fun k hk => by rw [inWord, if_neg hk, errorCount_none]) source s.freeIndex
    (readImage_written (s := s) hn r source hword (1#72 <<< a ||| 1#72 <<< b) (.inl rfl))
  exact ⟨_, _, rfl, hbecame, hdirty, hcopy, readImage_stats_lost hbecame hcorrected⟩

/-- Settles O26: the image just written, the words by their bits in error, and the copy in each condition of the
image. -/
theorem readsAfterWrites : Obligations.ReadsAfterWrites := by
  unfold Obligations.ReadsAfterWrites
  refine ⟨⟨fun s n r source hn _ ha hr => readImage_written_back source hn ha hr,
    fun s n r source word a b hn _ ha hword hab hb => readImage_written_lost source hn ha hword hab hb⟩,
    fun d e => ⟨checkWord_clean, checkWord_corrected, checkWord_uncorrectable⟩,
    fun s n source vacant damage t x check hread hcheck => ?_⟩
  obtain ⟨hx, ht⟩ := readImage_by_checks hread hcheck
  have hfixed : x.corrected = (List.range 16).countP fun k => (check k).wasCorrected := by
    rw [hx, formCopy_corrected, fixedWords_checksOf]
  refine ⟨⟨hfixed, ?_⟩, fun hclear => ?_, fun hset => ⟨fun h hcode => ?_, fun hresume h hcode => ?_, fun hneither =>
    ⟨fun hfaults => ?_, fun hsound => ?_⟩⟩⟩
  · rw [ht, countRead, hfixed]
  · rw [hclear] at hx
    exact copy_of_clear source s.freeIndex hx
  · rw [hset] at hx
    exact copy_of_faulted source s.freeIndex hx h hcode
  · rw [hset, hresume] at hx
    exact copy_of_vacant s.freeIndex hx h hcode
  · rw [hset] at hx
    exact copy_of_unusable hx (judged_checksOf hneither) ((unusable_checksOf s.freeIndex).2 hfaults)
  · rw [hset] at hx
    exact copy_of_usable hx (judged_checksOf hneither) (mt (unusable_checksOf s.freeIndex).1 hsound)

end Sys2Proof.Proofs

/-! SUPPORT. The completions of the Sweep Unit's read and write (R97, R103, R108, R109) and of the FORMAT and RESUME passes
(R98 to R100, R175, R176). -/

namespace Sys2Proof.Proofs

open Sys2Proof Sys2Proof.Machine Sys2Proof.Safety Sys2Proof.Laws

/-! ### The Sweep Unit's read and write (R97, R103, R108, R109) -/

theorem exec_sweepRead {s : State} {n : Nat} {rest : List Txn} (hpin : s.resetPin = false)
    (hf : s.inFlight = .sweepRead n :: rest) (hn : n < Config.maxRecords) (damage : Damage) (during : VisitEvents) :
    exec (.sweepReadComplete damage during) s = .next (sweepVisited { s with inFlight := rest } n damage during) := by
  simp only [exec, execSweepReadComplete, hf, completing_of_number hpin hn]

theorem exec_sweepWrite {s : State} {n m : Nat} {copy : Record} {rest : List Txn} (hpin : s.resetPin = false)
    (hf : s.inFlight = .sweepWrite n :: rest) (hh : s.hold = .writing m copy) (hn : n < Config.maxRecords)
    (during : VisitEvents) :
    exec (.sweepWriteComplete during) s = .next (sweepWritten { s with inFlight := rest } n copy during) := by
  simp only [exec, execSweepWriteComplete, hf, hh, completing_of_number hpin hn]

/-- The FAULTED notice of a read, offered at the tick count of the state before it (R94). -/
theorem offerFaulted_of_read {s t : State} {n : Nat} {source : FaultSource} {vacant : Bool} {damage : Damage}
    {x : Formed} (h : readImage s n source vacant damage = (t, x)) :
    offerFaulted t n x =
      if x.becameFaulted then
        offerNotice t x.copy .faulted ⟨.faulted x.copy.faultSource x.copy.owedLost, n, x.copy.generation, s.now⟩
      else (t, x.copy) := by
  rw [offerFaulted, (readImage_same h).2.2]

theorem sweepVisited_of_read {s t : State} {n : Nat} {damage : Damage} {x : Formed}
    (h : readImage s n .sweep false damage = (t, x)) (during : VisitEvents) :
    sweepVisited s n damage during =
      { (visitActions during (offerFaulted t n x).1 n (offerFaulted t n x).2).1 with
        hold := .writing n (visitActions during (offerFaulted t n x).1 n (offerFaulted t n x).2).2
        sweepReq := some (.write n) } := by
  rw [sweepVisited, h]

theorem released_remembered (s : State) (n : Nat) (copy : Record) :
    (released s n copy).remembered = s.remembered := rfl

/-- Settles O29: the read judged, its notice offered and the visit made; the write, by the remembered step. -/
theorem sweepReadModifyWrite : Obligations.SweepReadModifyWrite := by
  unfold Obligations.SweepReadModifyWrite
  refine ⟨?_, ?_⟩
  · rintro during s n rest damage t x hpin hf hn hread q rfl v rfl
    rw [exec_sweepRead hpin hf hn, sweepVisited_of_read hread, offerFaulted_of_read hread]
  · rintro during s n m copy rest hpin hf hh hn table rfl t rfl
    rw [exec_sweepWrite hpin hf hh hn, sweepWritten_eq]
    refine ⟨fun hforgot => ?_, fun hremembered => ?_⟩
    · exact congrArg Host.Outcome.next (if_neg (by simpa [released_remembered] using hforgot))
    · exact congrArg Host.Outcome.next (if_pos (by simpa [released_remembered] using hremembered))

/-! ### FORMAT_WRITE_COMPLETE (R98, R175) -/

theorem encodeImage_blank : encodeImage Record.blank = List.replicate 16 0 := by decide +kernel

theorem beBytes_two (v : Nat) : beBytes 2 v = [BitVec.ofNat 8 (v / 256), BitVec.ofNat 8 v] := by
  simp [beBytes]

theorem exec_formatWrite {s : State} {n next : Nat} {rest : List Txn} (hpin : s.resetPin = false)
    (hf : s.inFlight = .formatWrite n :: rest) (hp : s.pass = .format next) (hn : n < Config.maxRecords) :
    exec .formatWriteComplete s = .next (formatWritten { s with inFlight := rest } n) := by
  simp only [exec, execFormatWriteComplete, hf, hp, completing_of_number hpin hn]

/-- Settles O30: the write of a record that is not the last, and of the last. -/
theorem formatWriteCompleted : Obligations.FormatWriteCompleted := by
  unfold Obligations.FormatWriteCompleted
  refine ⟨encodeImage_blank, fun s n next c rest hpin hf hp he hn => ?_⟩
  rw [exec_formatWrite hpin hf hp hn, formatWritten]
  refine ⟨fun hmore => ?_, fun hlast => ?_⟩
  · rw [if_neg hmore]
    rfl
  · rw [if_pos hlast, endFormat, completeOperation_of_operation (by exact he), beBytes_two]
    rfl

/-! ### RESUME_READ_COMPLETE and RESUME_WRITE_COMPLETE (R99, R100, R176) -/

theorem exec_resumeRead {s : State} {n next : Nat} {counts : StateCounts} {writes : List (Nat × Record)}
    {rest : List Txn} (hpin : s.resetPin = false) (hf : s.inFlight = .resumeRead n :: rest)
    (hp : s.pass = .resume next counts writes) (hn : n < Config.maxRecords) (damage : Damage) :
    exec (.resumeReadComplete damage) s =
      .next (resumeJudged { s with inFlight := rest } n next counts writes damage) := by
  simp only [exec, execResumeReadComplete, hf, hp, completing_of_number hpin hn]

theorem exec_resumeWrite {s : State} {n : Nat} {copy : Record} {rest : List Txn} (hpin : s.resetPin = false)
    (hf : s.inFlight = .resumeWrite n copy :: rest) (hn : n < Config.maxRecords) :
    exec .resumeWriteComplete s = .next (finishResume (writeImage { s with inFlight := rest } n copy)) := by
  simp only [exec, execResumeWriteComplete, hf, completing_of_number hpin hn]

theorem countsPayload_eq (counts : StateCounts) :
    countsPayload counts =
      [counts.vacant, counts.active, counts.held, counts.expired, counts.faulted].flatMap fun k =>
        [BitVec.ofNat 8 (k / 256), BitVec.ofNat 8 k] := by
  simp [countsPayload, beBytes_two]

theorem finishResume_end {u : State} {next : Nat} {counts : StateCounts} (hp : u.pass = .resume next counts [])
    (hnext : u.setup.capacity ≤ next) (hf : u.inFlight = []) :
    finishResume u = completeOperation (enterRunning u) (countsPayload counts) := by
  simp only [finishResume, hp]
  rw [if_pos ⟨hnext, hf⟩]

/-- The pass ends in one event with the last completion (R100, R176). -/
theorem finishResume_last {u : State} {next : Nat} {counts : StateCounts} {c : Command}
    (hp : u.pass = .resume next counts []) (hnext : u.setup.capacity ≤ next) (hf : u.inFlight = [])
    (he : u.engine = .inOperation c) : finishResume u = resumed u c counts := by
  rw [finishResume_end hp hnext hf, completeOperation_of_operation (by exact he), countsPayload_eq]
  rfl

theorem finishResume_more {u : State} {next : Nat} {counts : StateCounts} {writes : List (Nat × Record)}
    (hp : u.pass = .resume next counts writes) (h : ¬(u.setup.capacity ≤ next ∧ u.inFlight = [] ∧ writes = [])) :
    finishResume u = u := by
  cases writes with
  | nil =>
    simp only [finishResume, hp]
    rw [if_neg (by simpa using h)]
  | cons w more => simp only [finishResume, hp]

/-- A record judged by a RESUME pass: its state counted, its map entry and its debt, and the repair it needs (R99,
R100). -/
def judgedBy (s : State) (offer : State × Record) (n next : Nat) (counts : StateCounts) (writes : List (Nat × Record))
    (repair : Bool) : State :=
  { offer.1 with
    owedCount := if offer.2.owed.isEmpty then s.owedCount else s.owedCount + 1
    occupancy := if offer.2.state = .vacant then s.occupancy else occSet s.occupancy n
    pass := .resume next (counts.bump offer.2.state) (writes ++ if repair then [(n, offer.2)] else []) }

theorem resumeJudged_of_read {s t : State} {n : Nat} {damage : Damage} {x : Formed}
    (h : readImage s n .resume false damage = (t, x)) (next : Nat) (counts : StateCounts)
    (writes : List (Nat × Record)) :
    resumeJudged s n next counts writes damage =
      finishResume (judgedBy s (offerFaulted t n x) n next counts writes x.repair) := by
  have howed (b : Bool) : (if b then s.owedCount else s.owedCount + 1) = s.owedCount + if b then 0 else 1 := by
    cases b <;> rfl
  rw [resumeJudged, h, judgedBy, howed]

/-- The offer of a read record's FAULTED notice leaves what the end of a pass looks at. -/
theorem offerFaulted_of_readImage {s t : State} {n : Nat} {source : FaultSource} {vacant : Bool} {damage : Damage}
    {x : Formed} (h : readImage s n source vacant damage = (t, x)) :
    (offerFaulted t n x).1.setup = s.setup ∧ (offerFaulted t n x).1.inFlight = s.inFlight ∧
      (offerFaulted t n x).1.engine = s.engine := by
  obtain rfl : (readImage s n source vacant damage).1 = t := congrArg Prod.fst h
  obtain ⟨new, occupancy, owed, hoffer⟩ := (offerFaulted_frame (readImage s n source vacant damage).1 n x).1
  rw [hoffer]
  exact ⟨rfl, rfl, rfl⟩

/-- Settles O31: the map entry set, and each completion by whether it is the pass's last. -/
theorem resumePassCompletions : Obligations.ResumePassCompletions := by
  unfold Obligations.ResumePassCompletions
  refine ⟨mem_occSet, ?_, ?_⟩
  · rintro s n next counts writes c rest damage t x hpin hf hp he hn hread q hq u rfl
    have hoffer : offerFaulted t n x = q := (offerFaulted_of_read hread).trans hq
    rw [exec_resumeRead hpin hf hp hn, resumeJudged_of_read hread, hoffer]
    obtain ⟨hsetup, hflight, hengine⟩ := offerFaulted_of_readImage hread
    rw [hoffer] at hsetup hflight hengine
    refine ⟨?_, fun hmore => ?_⟩
    · rintro ⟨hnext, rfl, rfl, hrepair⟩
      refine congrArg Host.Outcome.next (finishResume_last (next := next) ?_ ?_ hflight (hengine.trans he))
      · simp [judgedBy, hrepair]
      · exact hsetup ▸ hnext
    · refine congrArg Host.Outcome.next (finishResume_more rfl fun hend => hmore ?_)
      obtain ⟨hnext, hrest, hwrites⟩ := hend
      rw [List.append_eq_nil_iff] at hwrites
      refine ⟨hsetup ▸ (show q.1.setup.capacity ≤ next from hnext), hflight.symm.trans hrest, hwrites.1, ?_⟩
      simpa using hwrites.2
  · rintro s n next copy counts writes c rest hpin hf hp he hn u rfl
    rw [exec_resumeWrite hpin hf hn]
    refine ⟨?_, fun hmore => ?_⟩
    · rintro ⟨hnext, rfl, rfl⟩
      exact congrArg Host.Outcome.next (finishResume_last hp hnext rfl he)
    · exact congrArg Host.Outcome.next (finishResume_more hp hmore)

end Sys2Proof.Proofs

/-! SUPPORT. What a step of a FORMAT or RESUME pass may do while the Record Store is empty, and the laws that the end of a
pass leaves (R13, R18, R98 to R100). -/

namespace Sys2Proof.Proofs

open Sys2Proof Sys2Proof.Machine Sys2Proof.Safety Sys2Proof.Laws

/-! ### What a FORMAT or RESUME pass stands on -/

/-- A command queued while the Maintenance Engine is in an operation waits (R136). -/
theorem takeNext_of_operation {s : State} (h : inOperation s.engine = true) : takeNext s = s := by
  unfold takeNext
  split
  · rename_i he _
    rw [he] at h
    cases h
  · rfl

/-- A transaction of a device-wide pass. -/
def passTxn : Txn → Bool
  | .formatWrite _ => true
  | .resumeRead _ => true
  | .resumeWrite _ _ => true
  | _ => false

/-- A FORMAT or RESUME pass is in progress, the Record Store is empty and only the pass's transactions are in flight. -/
structure InPass (s : State) : Prop where
  device : s.device = .formatting ∨ s.device = .resuming
  restart : s.restart = .idle
  engine : inOperation s.engine = true
  store : StoreEmpty s
  flight : ∀ x ∈ s.inFlight, passTxn x = true

namespace InPass

variable {s : State}

theorem not_classifying (h : InPass s) : classifying s = false := by
  rcases h.device with hd | hd <;> simp [classifying, hd]

theorem not_stepDue (h : InPass s) : stepDue s = false := by
  rcases h.device with hd | hd <;> simp [stepDue, hd]

theorem not_drained (h : InPass s) : drained s = false := by
  rcases h.device with hd | hd <;> simp [drained, hd]

theorem not_checking (h : InPass s) (c : Command) : s.engine ≠ .checking c := fun he => by
  have hengine := h.engine
  rw [he] at hengine
  cases hengine

theorem not_waiting (h : InPass s) (c : Command) : s.engine ≠ .waitingForEntry c := fun he => by
  have hengine := h.engine
  rw [he] at hengine
  cases hengine

theorem head_passTxn (h : InPass s) {x : Txn} {rest : List Txn} (hf : s.inFlight = x :: rest) : passTxn x = true :=
  h.flight x (hf ▸ List.mem_cons_self)

end InPass

/-! ### What a step of a pass does -/

/-- The Record Store, the configuration and the device state are the same. -/
structure SameStore (s t : State) : Prop where
  device : t.device = s.device := by rfl
  setup : t.setup = s.setup := by rfl
  rules : t.rules = s.rules := by rfl
  lines : t.lines = s.lines := by rfl
  missTable : t.missTable = s.missTable := by rfl
  hold : t.hold = s.hold := by rfl
  stage : t.stage = s.stage := by rfl
  cacheQ : t.cacheQ = s.cacheQ := by rfl
  sweepReq : t.sweepReq = s.sweepReq := by rfl

/-- Nothing differs of what a pass reads, writes or counts. -/
structure SamePass (s t : State) : Prop extends SameStore s t where
  inFlight : t.inFlight = s.inFlight := by rfl
  pass : t.pass = s.pass := by rfl
  occupancy : t.occupancy = s.occupancy := by rfl
  owedCount : t.owedCount = s.owedCount := by rfl
  memory : t.memory = s.memory := by rfl

/-- What an event may do while a pass is in progress. -/
inductive PassStep (s : State) : State → Prop
  | same {t : State} (h : SamePass s t) : PassStep s t
  | reset {t : State} (h : t.device = .config) : PassStep s t
  | issued : PassStep s (issueNext s)
  | formatWritten {n next : Nat} {rest : List Txn} (flight : s.inFlight = .formatWrite n :: rest)
      (pass : s.pass = .format next) (number : n < Config.maxRecords) :
      PassStep s (formatWritten { s with inFlight := rest } n)
  | resumeJudged {n next : Nat} {counts : StateCounts} {writes : List (Nat × Record)} {rest : List Txn}
      (damage : Damage) (flight : s.inFlight = .resumeRead n :: rest) (pass : s.pass = .resume next counts writes) :
      PassStep s (resumeJudged { s with inFlight := rest } n next counts writes damage)
  | resumeWritten {n : Nat} {copy : Record} {rest : List Txn} (flight : s.inFlight = .resumeWrite n copy :: rest)
      (number : n < Config.maxRecords) :
      PassStep s (finishResume (writeImage { s with inFlight := rest } n copy))

theorem grantStage_of_empty {s : State} (h : s.stage = none) : grantStage s = s := by
  unfold grantStage
  rw [h]

theorem serveCell_of_empty {s : State} (h : s.missTable = []) (n : Nat) : serveCell s n = s := by
  have hnone : findEntry s.missTable n = none := findEntry_none.2 (by rw [h]; exact fun x hx => absurd hx (by simp))
  unfold serveCell
  rw [hnone]

/-- While a pass is in progress the device is in no other work: no claim, no fill, no sweep, no command step. -/
theorem Effect.passStep {c : Instr} {s t : State} (h : Effect c s t) (hs : InPass s) : PassStep s t := by
  obtain ⟨-, htable, -, hstage, -, -⟩ := hs.store
  cases h with
  | nothing => exact .same { }
  | reset _ _ _ _ => exact .reset rfl
  | tick _ first =>
    obtain rfl | ⟨hdue, -⟩ := first
    · exact .same { }
    · rw [hs.not_stepDue] at hdue
      cases hdue
  | sweepStep _ due => rw [hs.not_stepDue] at due; cases due
  | transfer _ => exact .same { }
  | cellAccepted _ _ _ => exact .same { }
  | headLeft working _ _ => rw [hs.not_classifying] at working; cases working
  | stageGranted _ => exact .same (by rw [grantStage_of_empty hstage]; exact { })
  | entryGranted n _ => exact .same (by rw [serveCell_of_empty htable]; exact { })
  | cellEmitted _ => exact .same { }
  | issued _ => exact .issued
  | evictionWritten flight _ _ => cases hs.head_passTxn flight
  | restartWritten flight _ _ _ => cases hs.head_passTxn flight
  | filled _ flight _ _ => cases hs.head_passTxn flight
  | sweepVisited _ _ flight _ => cases hs.head_passTxn flight
  | sweepWritten _ flight _ _ => cases hs.head_passTxn flight
  | formatWritten flight pass number => exact .formatWritten flight pass number
  | resumeJudged damage flight pass _ => exact .resumeJudged damage flight pass
  | resumeWritten flight number => exact .resumeWritten flight number
  | writeBacksRequested drained => rw [hs.not_drained] at drained; cases drained
  | restartEnded restart _ => rw [hs.restart] at restart; cases restart
  | linked link =>
    obtain ⟨_, _, _, _, _, _, _, rfl⟩ := link
    exact .same { }
  | commandAccepted cmd link =>
    obtain ⟨_, _, _, _, _, _, _, rfl⟩ := link
    rw [acceptCommand, takeNext_of_operation (by exact hs.engine)]
    exact .same { }
  | answered _ _ engine => exact absurd engine (hs.not_checking _)
  | configured _ engine _ _ => exact absurd engine (hs.not_checking _)
  | ruleWritten _ engine _ => exact absurd engine (hs.not_checking _)
  | formatBegun engine _ => exact absurd engine (hs.not_checking _)
  | resumeBegun engine _ _ => exact absurd engine (hs.not_checking _)
  | restartBegun engine _ => exact absurd engine (hs.not_checking _)
  | recordCommand _ engine => exact absurd engine (hs.not_checking _)
  | stepRetried engine => exact absurd engine (hs.not_waiting _)

/-- A step takes an event off the queue of waiting events, which no pass looks at. -/
theorem step_passStep {s t : State} (h : step s = .next t) (hs : InPass s) :
    ∃ l, PassStep { s with pending := l } t := by
  unfold step at h
  split at h
  · cases h
    exact ⟨s.pending, .same { }⟩
  · rename_i rest _
    exact ⟨rest, (exec_effect h).passStep ⟨hs.device, hs.restart, hs.engine, hs.store, hs.flight⟩⟩

/-! ### What the frame of a pass carries over -/

namespace SameStore

variable {s t : State}

theorem storeEmpty (h : SameStore s t) (hs : StoreEmpty s) : StoreEmpty t := by
  unfold StoreEmpty at hs ⊢
  rwa [h.lines, h.missTable, h.hold, h.stage, h.cacheQ, h.sweepReq]

theorem rulesFit (h : SameStore s t) (hs : RulesFit s) : RulesFit t := by
  unfold RulesFit at hs ⊢
  rwa [h.rules, h.setup]

end SameStore

namespace SamePass

variable {s t : State}

theorem imageVacant (h : SamePass s t) (n : Nat) : imageVacant t n ↔ imageVacant s n := by
  unfold Safety.imageVacant
  rw [h.memory]

theorem imageOwed (h : SamePass s t) (n : Nat) : imageOwed t n = imageOwed s n := by
  unfold Safety.imageOwed
  rw [h.memory]

theorem repairs (h : SamePass s t) : repairs t = repairs s := by
  unfold Safety.repairs
  rw [h.inFlight, h.pass]

theorem resumeReads (h : SamePass s t) : resumeReads t = resumeReads s := by
  unfold Safety.resumeReads
  rw [h.inFlight]

end SamePass

/-- The images are sound wherever the words are the same. -/
theorem imagesSound_of_same {s t : State} (h : ImagesSound s) (hsetup : t.setup = s.setup)
    (hm : ∀ w, t.memory.readWord w = s.memory.readWord w) : ImagesSound t := by
  unfold ImagesSound imageVacant imageOwed at h ⊢
  simpa only [hsetup, hm] using h

/-! ### The end of a pass -/

theorem completeOperation_samePass (s : State) (p : List Byte) : SamePass s (completeOperation s p) := by
  obtain ⟨c, -, h⟩ | ⟨-, h⟩ := completeOperation_eq s p <;> rw [h]
  · unfold answered
    split <;> exact { }
  · exact { }

theorem completeOperation_engine {s : State} (h : inOperation s.engine = true) (p : List Byte) :
    engineNumbers (completeOperation s p).engine = [] := by
  cases he : s.engine with
  | inOperation c =>
    rw [completeOperation_of_operation he, answered]
    split <;> rfl
  | _ => rw [he] at h; cases h

/-- What a pass has brought about when its last transaction has completed. -/
structure PassDone (s : State) : Prop where
  store : StoreEmpty s
  rules : RulesFit s
  sound : ImagesSound s
  flight : s.inFlight = []
  occupancy : ∀ n, n ∈ s.occupancy ↔ n < s.setup.capacity ∧ ¬imageVacant s n
  owed : s.owedCount = (List.range s.setup.capacity).countP fun n => !(imageOwed s n).isEmpty

namespace PassDone

variable {s t : State}

theorem same (h : PassDone s) (hst : SamePass s t) : PassDone t := by
  refine ⟨hst.storeEmpty h.store, hst.rulesFit h.rules,
    imagesSound_of_same h.sound hst.setup fun w => by rw [hst.memory], hst.inFlight.trans h.flight, fun n => ?_, ?_⟩
  · rw [hst.occupancy, hst.setup, hst.imageVacant]
    exact h.occupancy n
  · simp only [hst.owedCount, hst.setup, hst.imageOwed]
    exact h.owed

theorem no_copy (h : PassDone s) : ∀ n r, ¬IsCopy s n r := no_copy_of_empty h.store.1 h.store.2.2.1

theorem occupancyAgrees (h : PassDone s) : OccupancyAgrees s := by
  refine (occupancyAgrees_iff s).2 fun n => ⟨fun hn => ?_, fun hr => ?_, fun _ r hr => absurd hr.isCopy (h.no_copy n r)⟩
  · rw [vacantNow_of_absent (h.no_copy n), h.occupancy, and_iff_right hn]
  · rw [h.store.2.2.1] at hr
    cases hr

theorem owing_eq (h : PassDone s) : s.owedCount = owing s := by
  rw [h.owed, owing]
  exact List.countP_congr fun n _ => by rw [owes_of_absent (h.no_copy n)]

theorem owedAgrees (h : PassDone s) : OwedAgrees s := by
  refine (owedAgrees_iff s).2 ⟨h.owing_eq.ge, fun n hn => ⟨fun hv => ?_, (h.sound n hn).1, fun r hr => ?_⟩⟩
  · rw [owes_of_absent (h.no_copy n), (h.sound n hn).2 ((vacantNow_of_absent (h.no_copy n)).1 hv)]
    rfl
  · exact absurd hr.isCopy (h.no_copy n r)

theorem recordsFit (h : PassDone s) (hp : s.pass = .none) (he : engineNumbers s.engine = []) : RecordsFit s := by
  obtain ⟨hlines, htable, hhold, hstage, hcacheQ, hsweepReq⟩ := h.store
  refine (recordsFit_iff s).2 ⟨Nat.le_refl _, h.rules, ?_⟩
  constructor
  case occupancy => exact fun n hn => ((h.occupancy n).1 hn).1
  all_goals simp [hlines, htable, hhold, hstage, hcacheQ, hsweepReq, h.flight, hp, he, lineNumbers, SweepHold.number,
    passNumbers]

/-- The end of a pass: the operation's command completes and the device enters RUNNING (R175, R176). -/
theorem ends (h : PassDone s) (he : inOperation s.engine = true) (p : List Byte) :
    (completeOperation (enterRunning s) p).device = .running ∧ LawsHold (completeOperation (enterRunning s) p) := by
  have hsame := completeOperation_samePass (enterRunning s) p
  have hentered : PassDone (enterRunning s) := ⟨h.store, h.rules, h.sound, h.flight, h.occupancy, h.owed⟩
  have hdone := hentered.same hsame
  exact ⟨hsame.device, hdone.occupancyAgrees, hdone.owedAgrees, hdone.owing_eq,
    hdone.recordsFit hsame.pass (completeOperation_engine (s := enterRunning s) he p)⟩

end PassDone

end Sys2Proof.Proofs

/-! SUPPORT. The agreement of a RESUME pass with the images it has read (R99, R100), kept by the transactions it issues and by
the repairs it writes. -/

namespace Sys2Proof.Proofs

open Sys2Proof Sys2Proof.Machine Sys2Proof.Safety Sys2Proof.Laws

/-! ### The record found in an image, by the repair still to come -/

section

variable {s t : State} {n : Nat}

/-- The repair of a record is the one that a search by its number finds, the numbers being distinct. -/
theorem find_repair {l : List (Nat × Record)} {r : Record} (h : (l.map Prod.fst).Nodup) (hr : (n, r) ∈ l) :
    l.find? (fun x => x.1 == n) = some (n, r) := by
  induction l with
  | nil => cases hr
  | cons x l ih =>
    rw [List.map_cons, List.nodup_cons] at h
    rw [List.find?_cons]
    rcases List.mem_cons.1 hr with rfl | hr
    · simp
    · have hx : x.1 ≠ n := fun e => h.1 (e ▸ List.mem_map_of_mem (f := Prod.fst) hr)
      rw [beq_eq_false_iff_ne.2 hx]
      exact ih h.2 hr

theorem find_no_repair {l : List (Nat × Record)} (h : n ∉ l.map Prod.fst) : l.find? (fun x => x.1 == n) = none := by
  refine List.find?_eq_none.2 fun x hx hxn => h ?_
  exact beq_iff_eq.1 hxn ▸ List.mem_map_of_mem (f := Prod.fst) hx

/-- The numbers of the records to be repaired. -/
def repairNumbers (s : State) : List Nat := (repairs s).map Prod.fst

theorem found_of_repair {r : Record} (h : (repairNumbers s).Nodup) (hr : (n, r) ∈ repairs s) :
    (foundVacant s n ↔ r.state = .vacant) ∧ foundOwing s n = !r.owed.isEmpty := by
  unfold foundVacant foundOwing
  rw [find_repair h hr]
  exact ⟨Iff.rfl, rfl⟩

theorem found_of_image (h : n ∉ repairNumbers s) :
    (foundVacant s n ↔ imageVacant s n) ∧ foundOwing s n = !(imageOwed s n).isEmpty := by
  unfold foundVacant foundOwing
  rw [find_no_repair h]
  exact ⟨Iff.rfl, rfl⟩

/-- A RESUME pass has found the same of record `n` in both states. -/
structure SameFound (s t : State) (n : Nat) : Prop where
  reading : n ∈ resumeReads t ↔ n ∈ resumeReads s
  vacant : foundVacant t n ↔ foundVacant s n
  owing : foundOwing t n = foundOwing s n

theorem found_congr (hs : (repairNumbers s).Nodup) (ht : (repairNumbers t).Nodup)
    (hrepair : ∀ r, (n, r) ∈ repairs t ↔ (n, r) ∈ repairs s)
    (himage : SameImage s t n) :
    (foundVacant t n ↔ foundVacant s n) ∧ foundOwing t n = foundOwing s n := by
  by_cases hn : n ∈ repairNumbers s
  · obtain ⟨⟨m, r⟩, hr, rfl⟩ := List.mem_map.1 hn
    obtain ⟨hvacant, howing⟩ := found_of_repair hs hr
    obtain ⟨hvacant', howing'⟩ := found_of_repair ht ((hrepair r).2 hr)
    exact ⟨hvacant'.trans hvacant.symm, howing'.trans howing.symm⟩
  · have hn' : n ∉ repairNumbers t := fun h => by
      obtain ⟨⟨m, r⟩, hr, rfl⟩ := List.mem_map.1 h
      exact hn (List.mem_map_of_mem (f := Prod.fst) ((hrepair r).1 hr))
    obtain ⟨hvacant, howing⟩ := found_of_image hn
    obtain ⟨hvacant', howing'⟩ := found_of_image hn'
    rw [himage.imageVacant] at hvacant'
    rw [himage.imageOwed] at howing'
    exact ⟨hvacant'.trans hvacant.symm, howing'.trans howing.symm⟩

end

/-- What an image says that holds the sixteen words of a copy. -/
theorem image_of_written {s : State} {n : Nat} {r : Record}
    (h : ∀ k, k < 16 → s.memory.readWord (16 * n + k) = (encodeImage r).getD k 0) :
    (imageVacant s n ↔ r.state = .vacant) ∧ imageOwed s n = r.owed := by
  have hfirst : s.memory.readWord (16 * n) = (encodeImage r).getD 0 0 := h 0 (by decide)
  unfold imageVacant imageOwed
  rw [hfirst, owedCopy_encodeImage r (by decide), ← code_eq_zero, ← identityWord_code]
  exact ⟨Iff.rfl, rfl⟩

/-! ### The agreement of a RESUME pass, by the next record to be read -/

/-- Record `n` has been read and found to owe. -/
def countedOwing (s : State) (n : Nat) : Bool := !(resumeReads s).contains n && foundOwing s n

theorem SameFound.countedOwing {s t : State} {n : Nat} (h : SameFound s t n) : countedOwing t n = countedOwing s n := by
  have hcontains : (resumeReads t).contains n = (resumeReads s).contains n := by
    rw [Bool.eq_iff_iff, List.contains_iff_mem, List.contains_iff_mem, h.reading]
  rw [Proofs.countedOwing, Proofs.countedOwing, hcontains, h.owing]

/-- The transactions of a RESUME pass. -/
def resumeTxn (x : Txn) : Prop := (∃ n, x = .resumeRead n) ∨ ∃ n r, x = .resumeWrite n r

/-- The records whose read or repair a RESUME pass waits for. -/
def awaited (s : State) : List Nat := resumeReads s ++ repairNumbers s

/-- The agreement of a RESUME pass that reads record `next` next (R12, R99, R100). -/
structure ResumeLaw (s : State) (next : Nat) : Prop where
  store : StoreEmpty s
  rules : RulesFit s
  sound : ImagesSound s
  bound : next ≤ s.setup.capacity
  flight : ∀ x ∈ s.inFlight, resumeTxn x
  once : (awaited s).Nodup
  below : ∀ n ∈ awaited s, n < next
  settled : ∀ x ∈ repairs s, x.2.state = .vacant → x.2.owed.isEmpty = true
  occupancy : ∀ n, n ∈ s.occupancy ↔ n < next ∧ n ∉ resumeReads s ∧ ¬foundVacant s n
  owed : s.owedCount = (List.range next).countP (countedOwing s)

theorem resumeAgrees_iff (s : State) :
    ResumeAgrees s ↔ ∃ next counts writes, s.pass = .resume next counts writes ∧ ResumeLaw s next := by
  constructor
  · rintro ⟨hstore, hrules, hsound, next, counts, writes, hp, hbound, hflight, honce, hbelow, hsettled, hocc, howed⟩
    exact ⟨next, counts, writes, hp, hstore, hrules, hsound, hbound, hflight, honce, hbelow, hsettled, hocc, howed⟩
  · rintro ⟨next, counts, writes, hp, hstore, hrules, hsound, hbound, hflight, honce, hbelow, hsettled, hocc, howed⟩
    exact ⟨hstore, hrules, hsound, next, counts, writes, hp, hbound, hflight, honce, hbelow, hsettled, hocc, howed⟩

namespace ResumeLaw

variable {s t : State} {next : Nat}

theorem nodup_repairs (h : ResumeLaw s next) : (repairNumbers s).Nodup := (List.nodup_append.1 h.once).2.1

/-- What the pass has found stays found: the laws of the map and of the count go over. -/
theorem of_sameFound (h : ResumeLaw s next) (hfound : ∀ n, n < next → SameFound s t n)
    (same : SameStore s t) (sound : ImagesSound t) (flight : ∀ x ∈ t.inFlight, resumeTxn x)
    (once : (awaited t).Nodup) (below : ∀ n ∈ awaited t, n < next) (settled : ∀ x ∈ repairs t, x ∈ repairs s) (occupancy : t.occupancy = s.occupancy)
    (owedCount : t.owedCount = s.owedCount) : ResumeLaw t next := by
  refine ⟨same.storeEmpty h.store, same.rulesFit h.rules, sound, same.setup ▸ h.bound, flight, once, below,
    fun x hx => h.settled x (settled x hx), fun n => ?_, ?_⟩
  · rw [occupancy, h.occupancy]
    exact and_congr_right fun hn => by rw [(hfound n hn).reading, (hfound n hn).vacant]
  · rw [owedCount, h.owed]
    exact List.countP_congr fun n hn => by rw [(hfound n (List.mem_range.1 hn)).countedOwing]

theorem same (h : ResumeLaw s next) (hst : SamePass s t) : ResumeLaw t next := by
  have hnumbers : repairNumbers t = repairNumbers s := by rw [repairNumbers, hst.repairs, repairNumbers]
  have hawaited : awaited t = awaited s := by rw [awaited, hst.resumeReads, hnumbers, awaited]
  have hfound (n : Nat) : SameFound s t n := by
    obtain ⟨hvacant, howing⟩ := found_congr (n := n) h.nodup_repairs (hnumbers ▸ h.nodup_repairs)
      (fun r => by rw [hst.repairs]) fun k _ => by rw [hst.memory]
    exact ⟨by rw [hst.resumeReads], hvacant, howing⟩
  exact h.of_sameFound (fun n _ => hfound n) hst.toSameStore
    (imagesSound_of_same h.sound hst.setup fun w => by rw [hst.memory]) (hst.inFlight ▸ h.flight)
    (hawaited ▸ h.once) (hawaited ▸ h.below) (fun x hx => hst.repairs ▸ hx) hst.occupancy hst.owedCount

end ResumeLaw

/-! ### A transaction issued -/

theorem resumeReads_read {s : State} {n : Nat} {rest : List Txn} (h : s.inFlight = .resumeRead n :: rest) :
    resumeReads s = n :: resumeReads { s with inFlight := rest } := by
  simp [resumeReads, h]

theorem issueNext_device (s : State) : (issueNext s).device = s.device := by
  unfold issueNext
  repeat' split
  all_goals rfl

/-- The repair that a transaction writes. -/
def repairOf : Txn → Option (Nat × Record)
  | .resumeWrite n r => some (n, r)
  | _ => none

/-- The repairs of a pass with these writes waiting and these transactions in flight. -/
def repairsOf (writes : List (Nat × Record)) (flight : List Txn) : List (Nat × Record) :=
  writes ++ flight.filterMap repairOf

theorem repairs_of_pass {s : State} {next : Nat} {counts : StateCounts} {writes : List (Nat × Record)}
    (h : s.pass = .resume next counts writes) : repairs s = repairsOf writes s.inFlight := by
  unfold repairs
  rw [h]
  rfl

namespace ResumeLaw

variable {s : State} {next : Nat} {counts : StateCounts} {writes : List (Nat × Record)}

/-- A repair issued is awaited as it was (R100). -/
theorem repair_issued {n : Nat} {copy : Record} (h : ResumeLaw s next)
    (hp : s.pass = .resume next counts ((n, copy) :: writes)) :
    ResumeLaw (fly { s with pass := .resume next counts writes } (.resumeWrite n copy)) next := by
  generalize hu : fly { s with pass := .resume next counts writes } (.resumeWrite n copy) = u
  have hflight : u.inFlight = s.inFlight ++ [.resumeWrite n copy] := by rw [← hu]; rfl
  have hreads : resumeReads u = resumeReads s := by simp [resumeReads, hflight]
  have hrepairs : (repairs u).Perm (repairs s) := by
    rw [repairs_of_pass hp, repairs_of_pass (s := u) (by rw [← hu]; rfl), hflight, repairsOf, List.filterMap_append,
      ← List.append_assoc]
    exact List.perm_append_singleton _ _
  have hnumbers : (repairNumbers u).Perm (repairNumbers s) := hrepairs.map _
  have hawaited : (awaited u).Perm (awaited s) := by
    rw [awaited, awaited, hreads]
    exact hnumbers.append_left _
  refine h.of_sameFound (t := u) (fun m _ => ?_) (by rw [← hu]; exact { }) (by rw [← hu]; exact h.sound) (fun x hx => ?_)
    (hawaited.nodup_iff.2 h.once) (fun m hm => h.below m (hawaited.mem_iff.1 hm)) (fun x hx => hrepairs.mem_iff.1 hx)
    (by rw [← hu]; rfl) (by rw [← hu]; rfl)
  · obtain ⟨hvacant, howing⟩ := found_congr (n := m) h.nodup_repairs (hnumbers.nodup_iff.2 h.nodup_repairs)
      (fun r => hrepairs.mem_iff) (by rw [← hu]; exact fun _ _ => rfl)
    exact ⟨by rw [hreads], hvacant, howing⟩
  · rw [hflight] at hx
    rcases List.mem_append.1 hx with hx | hx
    · exact h.flight x hx
    · exact .inr ⟨n, copy, List.mem_singleton.1 hx⟩

/-- The read of the next record issued: nothing of it is counted yet (R99). -/
theorem read_issued (h : ResumeLaw s next) (hp : s.pass = .resume next counts []) (hmore : next < s.setup.capacity) :
    ResumeLaw (fly { s with pass := .resume (next + 1) counts [] } (.resumeRead next)) (next + 1) := by
  generalize hu : fly { s with pass := .resume (next + 1) counts [] } (.resumeRead next) = u
  have hflight : u.inFlight = s.inFlight ++ [.resumeRead next] := by rw [← hu]; rfl
  have hsame : SameStore s u := by rw [← hu]; exact { }
  have hreads : resumeReads u = resumeReads s ++ [next] := by simp [resumeReads, hflight]
  have hrepairs : repairs u = repairs s := by
    rw [repairs_of_pass hp, repairs_of_pass (s := u) (by rw [← hu]; rfl), hflight, repairsOf, List.filterMap_append]
    exact List.append_nil _
  have hnumbers : repairNumbers u = repairNumbers s := by rw [repairNumbers, hrepairs, repairNumbers]
  have hawaited : (awaited u).Perm (next :: awaited s) := by
    rw [awaited, awaited, hreads, hnumbers, List.append_assoc]
    exact List.perm_middle
  have hnew : next ∉ awaited s := fun hn => Nat.lt_irrefl _ (h.below next hn)
  have hfound (m : Nat) (hm : m ≠ next) : SameFound s u m := by
    obtain ⟨hvacant, howing⟩ := found_congr (n := m) h.nodup_repairs (hnumbers ▸ h.nodup_repairs)
      (fun r => by rw [hrepairs]) (by rw [← hu]; exact fun _ _ => rfl)
    exact ⟨by simp [hreads, hm], hvacant, howing⟩
  have hlast : countedOwing u next = false := by simp [countedOwing, hreads]
  refine ⟨hsame.storeEmpty h.store, hsame.rulesFit h.rules, by rw [← hu]; exact h.sound, hsame.setup ▸ hmore,
    fun x hx => ?_, hawaited.nodup_iff.2 (List.nodup_cons.2 ⟨hnew, h.once⟩), fun m hm => ?_,
    fun x hx => h.settled x (hrepairs ▸ hx), fun m => ?_, ?_⟩
  · rw [hflight] at hx
    rcases List.mem_append.1 hx with hx | hx
    · exact h.flight x hx
    · exact .inl ⟨next, List.mem_singleton.1 hx⟩
  · rcases List.mem_cons.1 (hawaited.mem_iff.1 hm) with rfl | hm
    · exact Nat.lt_succ_self _
    · exact Nat.lt_succ_of_lt (h.below m hm)
  · have hocc : u.occupancy = s.occupancy := by rw [← hu]; rfl
    rw [hocc, h.occupancy]
    by_cases hm : m = next
    · simp [hm, hreads]
    · rw [(hfound m hm).reading, (hfound m hm).vacant, Nat.lt_succ_iff_lt_or_eq, or_iff_left hm]
  · have howed : u.owedCount = s.owedCount := by rw [← hu]; rfl
    rw [howed, h.owed, List.range_succ, List.countP_append, List.countP_singleton, hlast]
    refine List.countP_congr fun m hm => ?_
    rw [(hfound m (List.mem_range.1 hm).ne).countedOwing]

/-- Whatever a RESUME pass issues, the agreement is kept. -/
theorem issued (h : ResumeLaw s next) (hp : s.pass = .resume next counts writes) : ResumeAgrees (issueNext s) := by
  cases writes with
  | cons w writes =>
    obtain ⟨n, copy⟩ := w
    simp only [issueNext, hp]
    exact (resumeAgrees_iff _).2 ⟨_, _, _, rfl, h.repair_issued hp⟩
  | nil =>
    simp only [issueNext, hp]
    split
    · rename_i hmore
      exact (resumeAgrees_iff _).2 ⟨_, _, _, rfl, h.read_issued hp hmore⟩
    · exact (resumeAgrees_iff _).2 ⟨_, _, _, hp, h⟩

/-! ### A transaction completed -/

/-- A repair completed: the image holds the copy found (R100). -/
theorem repair_written {n : Nat} {copy : Record} {rest : List Txn} (h : ResumeLaw s next)
    (hp : s.pass = .resume next counts writes) (hf : s.inFlight = .resumeWrite n copy :: rest)
    (hn : n < Config.maxRecords) : ResumeLaw (writeImage { s with inFlight := rest } n copy) next := by
  obtain ⟨hthis, hother⟩ := readWord_writeImage s.memory hn copy
  generalize hu : writeImage { s with inFlight := rest } n copy = u
  have hmemory : u.memory = s.memory.writeWords (16 * n) (encodeImage copy) := by rw [← hu]; rfl
  have hflight : u.inFlight = rest := by rw [← hu]; rfl
  rw [← hmemory] at hthis hother
  have hsame : SameStore s u := by rw [← hu]; exact { }
  have hreads : resumeReads u = resumeReads s := by simp [resumeReads, hf, hflight]
  have hrepairs : (repairs s).Perm ((n, copy) :: repairs u) := by
    rw [repairs_of_pass hp, repairs_of_pass (s := u) (by rw [← hu]; exact hp), hf, hflight]
    exact List.perm_middle
  have hnumbers : (repairNumbers s).Perm (n :: repairNumbers u) := hrepairs.map _
  have honce := List.nodup_cons.1 (hnumbers.nodup_iff.1 h.nodup_repairs)
  have hcopy : (n, copy) ∈ repairs s := hrepairs.mem_iff.2 List.mem_cons_self
  have hsub : (awaited u).Sublist (resumeReads s ++ n :: repairNumbers u) := by
    rw [awaited, hreads]
    exact (List.sublist_cons_self _ _).append_left _
  have hawaited : (awaited s).Perm (resumeReads s ++ n :: repairNumbers u) := hnumbers.append_left _
  obtain ⟨hvacant, howed⟩ := image_of_written hthis
  have hfound (m : Nat) : SameFound s u m := by
    suffices hfound : (foundVacant u m ↔ foundVacant s m) ∧ foundOwing u m = foundOwing s m from
      ⟨by rw [hreads], hfound.1, hfound.2⟩
    by_cases hm : m = n
    · subst hm
      obtain ⟨hfirst, hsecond⟩ := found_of_repair h.nodup_repairs hcopy
      obtain ⟨hfirst', hsecond'⟩ := found_of_image honce.1
      exact ⟨hfirst'.trans (hvacant.trans hfirst.symm), by rw [hsecond', hsecond, howed]⟩
    · exact found_congr h.nodup_repairs honce.2 (fun r => by simp [hrepairs.mem_iff, hm])
        fun k => hother m k hm
  refine h.of_sameFound (fun m _ => hfound m) hsame (fun m hm => ?_)
    (fun x hx => h.flight x (hf ▸ List.mem_cons_of_mem _ (hflight ▸ hx))) (hsub.nodup (hawaited.nodup_iff.1 h.once))
    (fun m hm => h.below m (hawaited.mem_iff.2 (hsub.subset hm)))
    (fun x hx => hrepairs.mem_iff.2 (List.mem_cons_of_mem _ hx)) (by rw [← hu]; rfl) (by rw [← hu]; rfl)
  by_cases hmn : m = n
  · subst hmn
    refine ⟨fun k hk => by rw [hthis k hk, owedCopy_encodeImage copy hk, howed], fun hv => ?_⟩
    rw [howed]
    exact h.settled _ hcopy (hvacant.1 hv)
  · obtain ⟨hwords, hempty⟩ := h.sound m (hsame.setup ▸ hm)
    have himage : SameImage s u m := fun k => hother m k hmn
    rw [himage.imageVacant, himage.imageOwed]
    exact ⟨fun k hk => (himage k hk).symm ▸ hwords k hk, hempty⟩

end ResumeLaw

end Sys2Proof.Proofs

/-! SUPPORT. A RESUME read: what it finds against its image, what the pass makes of it, and the end of the pass (R92 to R94,
R99, R100, R176). -/

namespace Sys2Proof.Proofs

open Sys2Proof Sys2Proof.Machine Sys2Proof.Safety Sys2Proof.Laws

/-! ### What a RESUME read finds (R92, R93, R99, R100) -/

/-- The record formed by a RESUME read, against its image: a VACANT one owes nothing (R12), and one that needs no repair
is found as the image says. -/
structure FoundAsImage (s : State) (n : Nat) (x : Formed) : Prop where
  vacant : x.copy.state = .vacant → x.copy.owed.isEmpty = true
  faulted : x.becameFaulted = true → x.copy.state = .faulted
  image : x.repair = false →
    x.becameFaulted = false ∧ (x.copy.state = .vacant ↔ imageVacant s n) ∧
      x.copy.owed.isEmpty = (imageOwed s n).isEmpty

section

variable {m : Memory} {n : Nat}

theorem firstReadable_of_usable {use : Nat} (hu : ¬Unusable use (m.checkImage n)) :
    firstReadable (m.checkImage n) = true := by
  have hlost := someLost_of_usable hu
  obtain ⟨rest, hchecks⟩ := checkImage_cons m n
  rw [hchecks] at hlost ⊢
  simpa [firstReadable] using List.any_eq_false.1 hlost _ List.mem_cons_self

theorem state_of_usable {use : Nat} {checks : List WordCheck} (hu : ¬Unusable use checks) :
    (recordRead use checks).state ≠ .vacant := by
  show (imageState checks).getD .vacant ≠ .vacant
  cases hstate : imageState checks with
  | none => exact absurd (.inr (.inl hstate)) hu
  | some st => exact fun h => hu (.inr (.inr (.inl (hstate.trans (congrArg some h)))))

/-- A readable word 0 names the state that was written (R90). -/
theorem imageState_checkImage (herr : ∀ w, errorCount (m.errorAt w) ≤ 2) (h : firstReadable (m.checkImage n) = true) :
    imageState (m.checkImage n) = RecState.ofCode ((m.readWord (16 * n)).extractLsb' 0 3) := by
  obtain ⟨rest, hchecks⟩ := checkImage_cons m n
  rw [hchecks] at h ⊢
  have hdata := (checkWord_of_le_two (herr (16 * n))).2 h 0
  rw [imageState, List.headD_cons, hdata]

theorem imageVacant_iff_imageState {s : State} (hm : ∀ w, m.readWord w = s.memory.readWord w)
    (herr : ∀ w, errorCount (m.errorAt w) ≤ 2) (h : firstReadable (m.checkImage n) = true) :
    imageVacant s n ↔ imageState (m.checkImage n) = some .vacant := by
  rw [imageState_checkImage herr h, ofCode_vacant, hm]
  rfl

end

theorem foundAsImage_of_read {s t : State} {n : Nat} {damage : Damage} {x : Formed} (hn : n < s.setup.capacity)
    (hsound : ImagesSound s) (h : readImage s n .resume false damage = (t, x))
    (herr : ∀ w, errorCount ((s.memory.addDamage n damage).errorAt w) ≤ 2) : FoundAsImage s n x := by
  obtain ⟨hwords, hempty⟩ := hsound n hn
  have hread := readWord_addDamage s.memory n damage
  obtain rfl : formCopy .resume false s.freeIndex ((s.memory.addDamage n damage).checkImage n) = x :=
    congrArg Prod.snd h
  generalize s.memory.addDamage n damage = m at hread herr
  have hvacant := imageVacant_iff_imageState (n := n) hread herr
  have howed (hfirst : firstReadable (m.checkImage n) = true) :
      (recordRead s.freeIndex (m.checkImage n)).owed = imageOwed s n :=
    decodeRecord_owed herr (fun k hk => by rw [hread]; exact hwords k hk) _ _ hfirst
  by_cases hf : firstReadable (m.checkImage n) = true ∧ imageState (m.checkImage n) = some .faulted
  · obtain ⟨hfirst, hstate⟩ := hf
    rw [formCopy_of_faulted _ _ hfirst hstate]
    refine ⟨nofun, nofun, fun _ => ⟨rfl, ?_, congrArg OwedSet.isEmpty (howed hfirst)⟩⟩
    rw [hvacant hfirst, hstate]
    exact ⟨nofun, nofun⟩
  by_cases hv : firstReadable (m.checkImage n) = true ∧ imageState (m.checkImage n) = some .vacant
  · obtain ⟨hfirst, hstate⟩ := hv
    rw [formCopy_of_vacant _ hfirst hstate]
    have himage := (hvacant hfirst).2 hstate
    exact ⟨fun _ => rfl, nofun, fun _ => ⟨rfl, iff_of_true rfl himage, (hempty himage).symm⟩⟩
  have hj : Judged .resume (m.checkImage n) := fun hfirst =>
    ⟨fun hstate => hf ⟨hfirst, hstate⟩, fun _ hstate => hv ⟨hfirst, hstate⟩⟩
  by_cases hu : Unusable s.freeIndex (m.checkImage n)
  · rw [formCopy_of_unusable hj hu]
    exact ⟨nofun, fun _ => rfl, nofun⟩
  · have hfirst := firstReadable_of_usable hu
    have hcopy := state_of_usable hu
    rw [formCopy_of_usable hj hu]
    refine ⟨fun h => absurd h hcopy, nofun, fun _ => ⟨rfl, iff_of_false hcopy fun himage => ?_, ?_⟩⟩
    · exact hv ⟨hfirst, (hvacant hfirst).1 himage⟩
    · rw [howed hfirst]

/-- The copy that the pass keeps of the record, its FAULTED notice offered (R94). -/
theorem FoundAsImage.offered {s : State} {n : Nat} {x : Formed} (h : FoundAsImage s n x) (t : State) :
    ((offerFaulted t n x).2.state = .vacant → (offerFaulted t n x).2.owed.isEmpty = true) ∧
      (x.repair = false → ((offerFaulted t n x).2.state = .vacant ↔ imageVacant s n) ∧
        (offerFaulted t n x).2.owed.isEmpty = (imageOwed s n).isEmpty) := by
  cases hfault : x.becameFaulted with
  | false =>
    have hcopy : (offerFaulted t n x).2 = x.copy := by simp [offerFaulted, hfault]
    rw [hcopy]
    exact ⟨h.vacant, fun hrepair => (h.image hrepair).2⟩
  | true =>
    obtain ⟨owed, hcopy⟩ := (offerFaulted_frame t n x).2
    have hstate : (offerFaulted t n x).2.state = .faulted := by rw [hcopy]; exact h.faulted hfault
    refine ⟨fun hvacant => ?_, fun hrepair => ?_⟩
    · rw [hstate] at hvacant
      cases hvacant
    · rw [(h.image hrepair).1] at hfault
      cases hfault

/-! ### A RESUME read judged -/

/-- Record `n`, whose read was in flight, has been found to be `copy`: counted, entered in the map, its repair asked
for. -/
structure JudgedAs (s u : State) (n : Nat) (copy : Record) (repair : Bool) : Prop where
  same : SameStore s u
  reads : resumeReads s = n :: resumeReads u
  flight : ∀ x ∈ u.inFlight, x ∈ s.inFlight
  repairs : (repairs u).Perm (if repair then (n, copy) :: repairs s else repairs s)
  words : ∀ w, u.memory.readWord w = s.memory.readWord w
  occupancy : u.occupancy = if copy.state = .vacant then s.occupancy else occSet s.occupancy n
  owed : u.owedCount = if copy.owed.isEmpty then s.owedCount else s.owedCount + 1

namespace JudgedAs

variable {s u : State} {n next : Nat} {copy : Record} {repair : Bool}

/-- The record is awaited for its repair, or no more. -/
theorem awaited_perm (h : JudgedAs s u n copy repair) :
    (awaited s).Perm (if repair then awaited u else n :: awaited u) := by
  have hreads : awaited s = n :: (resumeReads u ++ repairNumbers s) := by rw [awaited, h.reads, List.cons_append]
  have hnumbers : (repairNumbers u).Perm
      ((if repair then (n, copy) :: Safety.repairs s else Safety.repairs s).map Prod.fst) :=
    h.repairs.map _
  rw [hreads]
  cases repair with
  | true => exact List.perm_middle.symm.trans (hnumbers.append_left _).symm
  | false => exact (hnumbers.append_left _).symm.cons n

theorem awaited_once (h : JudgedAs s u n copy repair) (hs : (awaited s).Nodup) : (awaited u).Nodup := by
  have hperm := h.awaited_perm.nodup_iff.1 hs
  cases repair with
  | true => exact hperm
  | false => exact (List.nodup_cons.1 hperm).2

theorem awaited_sub (h : JudgedAs s u n copy repair) {m : Nat} (hm : m ∈ awaited u) : m ∈ awaited s := by
  refine h.awaited_perm.mem_iff.2 ?_
  cases repair with
  | true => exact hm
  | false => exact List.mem_cons_of_mem n hm

theorem mem_repairs (h : JudgedAs s u n copy repair) (x : Nat × Record) :
    x ∈ Safety.repairs u ↔ repair = true ∧ x = (n, copy) ∨ x ∈ Safety.repairs s := by
  rw [h.repairs.mem_iff]
  cases repair <;> simp

theorem not_awaited (h : JudgedAs s u n copy repair) (hs : (awaited s).Nodup) :
    n ∉ resumeReads u ∧ n ∉ repairNumbers s := by
  rw [awaited, h.reads, List.cons_append, List.nodup_cons, List.mem_append, not_or] at hs
  exact hs.1

theorem sameFound (h : JudgedAs s u n copy repair) (hs : (awaited s).Nodup) {m : Nat} (hm : m ≠ n) :
    SameFound s u m := by
  obtain ⟨hvacant, howing⟩ := found_congr (List.nodup_append.1 hs).2.1 (List.nodup_append.1 (h.awaited_once hs)).2.1
    (fun r => by simp [h.mem_repairs, hm]) fun k _ => h.words (16 * m + k)
  exact ⟨by simp [h.reads, hm], hvacant, howing⟩

theorem found (h : JudgedAs s u n copy repair) (hs : (awaited s).Nodup)
    (himage : repair = false → (copy.state = .vacant ↔ imageVacant s n) ∧ copy.owed.isEmpty = (imageOwed s n).isEmpty) :
    (foundVacant u n ↔ copy.state = .vacant) ∧ countedOwing u n = !copy.owed.isEmpty := by
  have hreads : (resumeReads u).contains n = false := by simpa using (h.not_awaited hs).1
  have hsame : SameImage s u n := fun k _ => h.words (16 * n + k)
  rw [countedOwing, hreads, Bool.not_false, Bool.true_and]
  cases repair with
  | true =>
    exact found_of_repair (List.nodup_append.1 (h.awaited_once hs)).2.1 ((h.mem_repairs _).2 (.inl ⟨rfl, rfl⟩))
  | false =>
    obtain ⟨hvacant, howed⟩ := himage rfl
    have hn : n ∉ repairNumbers u := fun hn => (h.not_awaited hs).2 ((h.repairs.map Prod.fst).mem_iff.1 hn)
    obtain ⟨hfound, howing⟩ := found_of_image hn
    rw [hfound, howing, hsame.imageVacant, hsame.imageOwed, howed]
    exact ⟨hvacant.symm, rfl⟩

/-- The agreement with one record more. -/
theorem resumeLaw (hu : JudgedAs s u n copy repair) (h : ResumeLaw s next)
    (hempty : copy.state = .vacant → copy.owed.isEmpty = true)
    (himage : repair = false → (copy.state = .vacant ↔ imageVacant s n) ∧ copy.owed.isEmpty = (imageOwed s n).isEmpty) :
    ResumeLaw u next := by
  obtain ⟨hvacant, howing⟩ := hu.found h.once himage
  have hwas : n ∈ awaited s := by rw [awaited, hu.reads]; exact List.mem_cons_self
  have hn : n < next := h.below n hwas
  refine ⟨hu.same.storeEmpty h.store, hu.same.rulesFit h.rules, imagesSound_of_same h.sound hu.same.setup hu.words,
    hu.same.setup ▸ h.bound, fun x hx => h.flight x (hu.flight x hx), hu.awaited_once h.once,
    fun m hm => h.below m (hu.awaited_sub hm), fun x hx => ?_, fun m => ?_, ?_⟩
  · rcases (hu.mem_repairs x).1 hx with ⟨-, rfl⟩ | hx
    · exact hempty
    · exact h.settled x hx
  · have hmem : m ∈ u.occupancy ↔ m = n ∧ copy.state ≠ .vacant ∨ m ∈ s.occupancy := by
      rw [hu.occupancy]
      split <;> simp [mem_occSet, *]
    rw [hmem, h.occupancy]
    by_cases hm : m = n
    · subst hm
      simp [hvacant, hn, (hu.not_awaited h.once).1, hu.reads]
    · simp [hm, (hu.sameFound h.once hm).reading, (hu.sameFound h.once hm).vacant]
  · have hcount := countP_range_of_lt (p := countedOwing s) (q := countedOwing u) hn fun m hm =>
      (hu.sameFound h.once hm).countedOwing
    have hbefore : countedOwing s n = false := by simp [countedOwing, hu.reads]
    rw [hbefore, howing, ← h.owed] at hcount
    rw [hu.owed]
    cases hc : copy.owed.isEmpty <;> simp [hc] at hcount ⊢ <;> omega

end JudgedAs

/-- What the completion of a RESUME read makes of the state, before the pass may end. -/
theorem judgedBy_judgedAs {s t : State} {n next : Nat} {counts : StateCounts} {writes : List (Nat × Record)}
    {rest : List Txn} {damage : Damage} {x : Formed} (hp : s.pass = .resume next counts writes)
    (hf : s.inFlight = .resumeRead n :: rest)
    (hread : readImage { s with inFlight := rest } n .resume false damage = (t, x)) :
    JudgedAs s (judgedBy { s with inFlight := rest } (offerFaulted t n x) n next counts writes x.repair) n
      (offerFaulted t n x).2 x.repair := by
  obtain rfl : (readImage { s with inFlight := rest } n .resume false damage).1 = t := congrArg Prod.fst hread
  obtain ⟨new, occupancy, owed, hoffer⟩ :=
    (offerFaulted_frame (readImage { s with inFlight := rest } n .resume false damage).1 n x).1
  generalize hq : offerFaulted (readImage { s with inFlight := rest } n .resume false damage).1 n x = q at hoffer ⊢
  generalize hu : judgedBy { s with inFlight := rest } q n next counts writes x.repair = u
  have hflight : u.inFlight = rest := by rw [← hu, judgedBy, hoffer]; rfl
  have hpass : u.pass = .resume next (counts.bump q.2.state) (writes ++ if x.repair then [(n, q.2)] else []) := by
    rw [← hu]; rfl
  refine ⟨by rw [← hu, judgedBy, hoffer]; exact { }, by simp [resumeReads, hf, hflight],
    fun y hy => hf ▸ List.mem_cons_of_mem _ (hflight ▸ hy), ?_, fun w => ?_, by rw [← hu]; rfl, by rw [← hu]; rfl⟩
  · have hs : repairs s = repairsOf writes rest := by
      rw [repairs_of_pass hp, hf]
      rfl
    rw [repairs_of_pass hpass, hs, hflight]
    cases x.repair with
    | true =>
      rw [if_pos rfl, if_pos rfl, repairsOf, List.append_assoc]
      exact List.perm_middle
    | false =>
      rw [if_neg Bool.false_ne_true, if_neg Bool.false_ne_true, List.append_nil]
  · have hmemory : u.memory = s.memory.addDamage n damage := by rw [← hu, judgedBy, hoffer]; rfl
    rw [hmemory, readWord_addDamage]

/-! ### The end of a RESUME pass (R100, R176) -/

theorem ResumeLaw.passDone {u : State} {next : Nat} {counts : StateCounts} (h : ResumeLaw u next)
    (hp : u.pass = .resume next counts []) (hnext : u.setup.capacity ≤ next) (hf : u.inFlight = []) : PassDone u := by
  obtain rfl : next = u.setup.capacity := Nat.le_antisymm h.bound hnext
  have hreads : resumeReads u = [] := by simp [resumeReads, hf]
  have hrepairs : repairNumbers u = [] := by simp [repairNumbers, repairs_of_pass hp, repairsOf, hf]
  have hfound (n : Nat) := found_of_image (s := u) (n := n) (by simp [hrepairs])
  refine ⟨h.store, h.rules, h.sound, hf, fun n => ?_, ?_⟩
  · rw [h.occupancy, (hfound n).1, hreads]
    simp
  · rw [h.owed]
    refine List.countP_congr fun n _ => ?_
    rw [countedOwing, (hfound n).2, hreads]
    rfl

/-- What a step of a RESUME pass may leave. -/
def ResumeKept (t : State) : Prop :=
  (t.device = .resuming ∧ ResumeAgrees t) ∨ (t.device = .running ∧ LawsHold t) ∨ t.device = .config

theorem ResumeLaw.finished {u : State} {next : Nat} {counts : StateCounts} {writes : List (Nat × Record)}
    (h : ResumeLaw u next) (hp : u.pass = .resume next counts writes) (hd : u.device = .resuming)
    (he : inOperation u.engine = true) : ResumeKept (finishResume u) := by
  by_cases hend : u.setup.capacity ≤ next ∧ u.inFlight = [] ∧ writes = []
  · obtain ⟨hnext, hf, rfl⟩ := hend
    rw [finishResume_end hp hnext hf]
    exact .inr (.inl ((h.passDone hp hnext hf).ends he _))
  · rw [finishResume_more hp hend]
    exact .inl ⟨hd, (resumeAgrees_iff u).2 ⟨_, _, _, hp, h⟩⟩

/-! ### Every step of a RESUME pass -/

theorem ResumeLaw.inPass {s : State} {next : Nat} (h : ResumeLaw s next) (ha : OperationAgrees s)
    (hd : s.device = .resuming) : InPass s := by
  unfold OperationAgrees at ha
  rw [hd] at ha
  obtain ⟨hrestart, -, hengine⟩ := ha
  refine ⟨.inr hd, hrestart, hengine, h.store, fun x hx => ?_⟩
  obtain ⟨n, rfl⟩ | ⟨n, r, rfl⟩ := h.flight x hx <;> rfl

theorem ResumeLaw.passStep {s t : State} {next : Nat} {counts : StateCounts} {writes : List (Nat × Record)}
    (h : ResumeLaw s next) (hp : s.pass = .resume next counts writes) (hd : s.device = .resuming)
    (he : inOperation s.engine = true) (hstep : PassStep s t) (herr : ∀ w, errorCount (t.memory.errorAt w) ≤ 2) :
    ResumeKept t := by
  cases hstep with
  | same hsame =>
    exact .inl ⟨hsame.device.trans hd, (resumeAgrees_iff t).2 ⟨_, _, _, hsame.pass.trans hp, h.same hsame⟩⟩
  | reset hconfig => exact .inr (.inr hconfig)
  | issued => exact .inl ⟨(issueNext_device s).trans hd, h.issued hp⟩
  | formatWritten _ hformat _ =>
    rw [hp] at hformat
    cases hformat
  | @resumeJudged n _ _ _ rest damage hf hp' =>
    rw [hp] at hp'
    cases hp'
    rw [resumeJudged_memory] at herr
    cases hread : readImage { s with inFlight := rest } n .resume false damage with
    | mk v x =>
      have hn : n < s.setup.capacity :=
        (h.below n (by simp [awaited, resumeReads_read hf])).trans_le h.bound
      have hfound := foundAsImage_of_read (s := { s with inFlight := rest }) hn h.sound hread herr
      obtain ⟨hempty, himage⟩ := hfound.offered v
      have hjudged := judgedBy_judgedAs hp hf hread
      have hengine := (offerFaulted_of_readImage hread).2.2
      rw [resumeJudged_of_read hread]
      exact (hjudged.resumeLaw h hempty himage).finished rfl (hjudged.same.device.trans hd) (by exact hengine ▸ he)
  | resumeWritten hf hn => exact (h.repair_written hp hf hn).finished hp hd he

end Sys2Proof.Proofs

/-! SUPPORT. The agreement of a FORMAT pass with the images it has written (R98, R175), and how both passes begin. -/

namespace Sys2Proof.Proofs

open Sys2Proof Sys2Proof.Machine Sys2Proof.Safety Sys2Proof.Laws

/-! ### Blank images (R98) -/

/-- The first `done` images are blank. -/
def BlankBelow (s : State) (done : Nat) : Prop := ∀ n k, n < done → k < 16 → s.memory.readWord (16 * n + k) = 0

theorem owedCopy_zero (k : Nat) : owedCopy k 0 = .empty := by
  unfold owedCopy
  split <;> rfl

theorem getD_encodeImage_blank (k : Nat) : (encodeImage Record.blank).getD k 0 = 0 := by
  rw [encodeImage_blank, List.getD_eq_getElem?_getD, List.getElem?_replicate]
  split <;> rfl

namespace BlankBelow

variable {s : State} {done n : Nat}

theorem imageVacant (h : BlankBelow s done) (hn : n < done) : imageVacant s n := by
  unfold Safety.imageVacant
  rw [show s.memory.readWord (16 * n) = 0 from h n 0 hn (by decide)]
  rfl

theorem imageOwed (h : BlankBelow s done) (hn : n < done) : imageOwed s n = .empty := by
  unfold Safety.imageOwed
  rw [show s.memory.readWord (16 * n) = 0 from h n 0 hn (by decide), owedCopy_zero]

/-- With every image blank, no map entry set and no record owing, the pass has done its work. -/
theorem passDone (h : BlankBelow s s.setup.capacity) (store : StoreEmpty s) (rules : RulesFit s)
    (flight : s.inFlight = []) (hocc : s.occupancy = []) (howed : s.owedCount = 0) : PassDone s := by
  refine ⟨store, rules, fun n hn => ⟨fun k hk => ?_, fun _ => ?_⟩, flight, fun n => ?_, ?_⟩
  · rw [h n k hn hk, owedCopy_zero, h.imageOwed hn]
  · rw [h.imageOwed hn]
    rfl
  · rw [hocc]
    exact ⟨nofun, fun ⟨hn, hv⟩ => absurd (h.imageVacant hn) hv⟩
  · rw [howed]
    refine (List.countP_eq_zero.2 fun n hn => ?_).symm
    rw [h.imageOwed (List.mem_range.1 hn)]
    decide

/-- The end of a FORMAT pass over blank images (R175). -/
theorem endFormat (h : BlankBelow s s.setup.capacity) (store : StoreEmpty s) (rules : RulesFit s)
    (flight : s.inFlight = []) (he : inOperation s.engine = true) :
    (endFormat s).device = .running ∧ LawsHold (endFormat s) := by
  have hdone : PassDone { s with occupancy := [], owedCount := 0 } :=
    BlankBelow.passDone (s := { s with occupancy := [], owedCount := 0 }) h store rules flight rfl rfl
  exact hdone.ends he _

/-- One image more is blank when the pass has written the next one. -/
theorem written (h : BlankBelow s done) (hn : done < Config.maxRecords) :
    BlankBelow (writeImage s done Record.blank) (done + 1) := fun n k hlt hk => by
  obtain ⟨hthis, hother⟩ := readWord_writeImage s.memory hn Record.blank
  by_cases hnd : n = done
  · subst hnd
    exact (hthis k hk).trans (getD_encodeImage_blank k)
  · exact (hother n k hnd hk).trans (h n k (by omega) hk)

end BlankBelow

/-! ### The agreement of a FORMAT pass -/

/-- The writes of the records from `done` up to `next`, in order. -/
def formatWrites (done next : Nat) : List Txn := (List.range' done (next - done)).map .formatWrite

/-- A FORMAT pass has written the records below `done` and issued the writes of those below `next` (R98). -/
structure FormatLaw (s : State) (done next : Nat) : Prop where
  store : StoreEmpty s
  rules : RulesFit s
  order : done ≤ next
  bound : next ≤ s.setup.capacity
  flight : s.inFlight = formatWrites done next
  blank : BlankBelow s done

theorem formatAgrees_iff (s : State) :
    FormatAgrees s ↔ ∃ done next, s.pass = .format next ∧ FormatLaw s done next := by
  constructor
  · rintro ⟨hstore, hrules, done, next, hp, horder, hbound, hflight, hblank⟩
    exact ⟨done, next, hp, hstore, hrules, horder, hbound, hflight, hblank⟩
  · rintro ⟨done, next, hp, hstore, hrules, horder, hbound, hflight, hblank⟩
    exact ⟨hstore, hrules, done, next, hp, horder, hbound, hflight, hblank⟩

theorem formatWrites_append {done next : Nat} (h : done ≤ next) :
    formatWrites done next ++ [.formatWrite next] = formatWrites done (next + 1) := by
  rw [formatWrites, formatWrites, Nat.succ_sub h, List.range'_1_concat, List.map_append, Nat.add_sub_cancel' h]
  rfl

theorem formatWrites_head {done next n : Nat} {rest : List Txn} (h : formatWrites done next = .formatWrite n :: rest) :
    n = done ∧ done < next ∧ rest = formatWrites (done + 1) next := by
  unfold formatWrites at h ⊢
  cases hk : next - done with
  | zero =>
    rw [hk] at h
    cases h
  | succ k =>
    rw [hk, List.range'_succ, List.map_cons] at h
    injection h with hn hrest
    injection hn with hn
    exact ⟨hn.symm, by omega, by rw [← hrest, show next - (done + 1) = k by omega]⟩

theorem formatWrites_self (n : Nat) : formatWrites n n = [] := by simp [formatWrites]

/-- What a step of a FORMAT pass may leave. -/
def FormatKept (t : State) : Prop :=
  (t.device = .formatting ∧ FormatAgrees t) ∨ (t.device = .running ∧ LawsHold t) ∨ t.device = .config

namespace FormatLaw

variable {s t : State} {done next : Nat}

theorem same (h : FormatLaw s done next) (hst : SamePass s t) : FormatLaw t done next := by
  refine ⟨hst.storeEmpty h.store, hst.rulesFit h.rules, h.order, hst.setup ▸ h.bound, hst.inFlight.trans h.flight,
    fun n k hn hk => ?_⟩
  rw [hst.memory]
  exact h.blank n k hn hk

theorem issued (h : FormatLaw s done next) (hp : s.pass = .format next) : FormatAgrees (issueNext s) := by
  simp only [issueNext, hp]
  split
  · rename_i hmore
    refine (formatAgrees_iff _).2
      ⟨done, next + 1, rfl, h.store, h.rules, h.order.trans (Nat.le_succ _), hmore, ?_, h.blank⟩
    rw [← formatWrites_append h.order, ← h.flight]
    rfl
  · exact (formatAgrees_iff _).2 ⟨done, next, hp, h⟩

/-- A write completed is the oldest one; the last one ends the pass (R98, R175). -/
theorem written {n : Nat} {rest : List Txn} (h : FormatLaw s done next) (hp : s.pass = .format next)
    (hd : s.device = .formatting) (he : inOperation s.engine = true) (hf : s.inFlight = .formatWrite n :: rest)
    (hn : n < Config.maxRecords) : FormatKept (formatWritten { s with inFlight := rest } n) := by
  obtain ⟨rfl, hlt, hrest⟩ := formatWrites_head (h.flight.symm.trans hf)
  have hblank := BlankBelow.written (s := { s with inFlight := rest }) h.blank hn
  unfold formatWritten
  dsimp only
  split
  · rename_i hlast
    have hlast : n + 1 = s.setup.capacity := hlast
    obtain rfl : next = n + 1 := Nat.le_antisymm (hlast ▸ h.bound) hlt
    rw [formatWrites_self] at hrest
    rw [hlast] at hblank
    exact .inr (.inl (BlankBelow.endFormat hblank h.store h.rules hrest he))
  · exact .inl ⟨hd, (formatAgrees_iff _).2 ⟨n + 1, next, hp, h.store, h.rules, hlt, h.bound, hrest, hblank⟩⟩

theorem inPass (h : FormatLaw s done next) (ha : OperationAgrees s) (hd : s.device = .formatting) : InPass s := by
  unfold OperationAgrees at ha
  rw [hd] at ha
  obtain ⟨hrestart, -, hengine⟩ := ha
  refine ⟨.inl hd, hrestart, hengine, h.store, fun x hx => ?_⟩
  rw [h.flight] at hx
  obtain ⟨n, -, rfl⟩ := List.mem_map.1 hx
  rfl

theorem passStep (h : FormatLaw s done next) (hp : s.pass = .format next) (hd : s.device = .formatting)
    (he : inOperation s.engine = true) (hstep : PassStep s t) : FormatKept t := by
  cases hstep with
  | same hsame =>
    exact .inl ⟨hsame.device.trans hd, (formatAgrees_iff t).2 ⟨_, _, hsame.pass.trans hp, h.same hsame⟩⟩
  | reset hconfig => exact .inr (.inr hconfig)
  | issued => exact .inl ⟨(issueNext_device s).trans hd, h.issued hp⟩
  | formatWritten hf _ hn => exact h.written hp hd he hf hn
  | resumeJudged _ _ hresume =>
    rw [hp] at hresume
    cases hresume
  | @resumeWritten n copy rest hf _ =>
    have hmem : Txn.resumeWrite n copy ∈ formatWrites done next := h.flight ▸ hf ▸ List.mem_cons_self
    obtain ⟨m, -, hm⟩ := List.mem_map.1 hmem
    cases hm

end FormatLaw

/-! ### The beginning of a pass (R175, R176) -/

theorem answer_device (s : State) (c : Command) (o : OutcomeCode) : (answer s c o).device = s.device :=
  (answer_quiet s c o).device

theorem resumeAgrees_begun {s t : State} (hd : s.device = .config) (hstore : StoreEmpty s) (hrules : RulesFit s)
    (hflight : s.inFlight = []) (hocc : s.occupancy = []) (h : exec .resume s = .next t) (hd' : t.device = .resuming)
    (hsound : ImagesSound s) : ResumeAgrees t := by
  refine onCurrent_elim (P := fun t => t.device = .resuming → ResumeAgrees t) h (fun hs => ?_) (fun c _ _ => ?_) hd'
  · rw [hd] at hs
    cases hs
  · unfold resumeEffect
    split
    · refine fun _ => (resumeAgrees_iff _).2 ⟨0, _, [], rfl, ?_⟩
      constructor
      case store => exact hstore
      case rules => exact hrules
      case sound => exact hsound
      case bound => exact Nat.zero_le _
      all_goals simp [awaited, resumeReads, repairNumbers, repairs, hflight, hocc]
    · intro hs
      rw [answer_device, hd] at hs
      cases hs

theorem formatAgrees_begun {s t : State} (hd : s.device = .config) (hstore : StoreEmpty s) (hrules : RulesFit s)
    (hflight : s.inFlight = []) (h : exec .format s = .next t) (hd' : t.device = .formatting) : FormatAgrees t := by
  refine onCurrent_elim (P := fun t => t.device = .formatting → FormatAgrees t) h (fun hs => ?_) (fun c _ _ => ?_) hd'
  · rw [hd] at hs
    cases hs
  · rw [formatEffect, if_pos hd]
    exact fun _ => (formatAgrees_iff _).2 ⟨0, 0, rfl, hstore, hrules, Nat.le_refl 0, Nat.zero_le _, hflight, nofun⟩

/-- Settles O57: a pass begins in agreement with no image read or written, every step keeps the agreement, and with
nothing left to read or write the agreement is the laws. -/
theorem passesBringTheLaws : Obligations.PassesBringTheLaws := by
  unfold Obligations.PassesBringTheLaws
  refine ⟨fun s t hd hstore hrules hflight hocc => ⟨resumeAgrees_begun hd hstore hrules hflight hocc,
    formatAgrees_begun hd hstore hrules hflight⟩, fun s t ha hd hagrees hstep herr => ?_,
    fun s t ha hd hagrees hstep => ?_⟩
  · obtain ⟨next, counts, writes, hp, h⟩ := (resumeAgrees_iff s).1 hagrees
    have hin := h.inPass ha hd
    obtain ⟨l, htaken⟩ := step_passStep hstep hin
    have hsame : SamePass s { s with pending := l } := { }
    exact (h.same hsame).passStep hp hd hin.engine htaken herr
  · obtain ⟨done, next, hp, h⟩ := (formatAgrees_iff s).1 hagrees
    have hin := h.inPass ha hd
    obtain ⟨l, htaken⟩ := step_passStep hstep hin
    have hsame : SamePass s { s with pending := l } := { }
    exact (h.same hsame).passStep hp hd hin.engine htaken

end Sys2Proof.Proofs

/-! SUPPORT. A sweep step (R102 to R108): the choice of the next record, the placing of its visit by the record's
standing, and the sweep position after it. -/

namespace Sys2Proof.Proofs

open Sys2Proof Sys2Proof.Machine Sys2Proof.Safety Sys2Proof.Laws

/-! ### The choice of a record (R104) -/

theorem nextOccupied_eq_none_iff (o : List Nat) (p : Nat) : nextOccupied o p = none ↔ o = [] := by
  refine ⟨fun h => ?_, fun h => by rw [h]; rfl⟩
  unfold nextOccupied at h
  split at h
  · cases h
  · exact List.min?_eq_none_iff.1 h

theorem mem_beyond {o : List Nat} {p m : Nat} : m ∈ o.filter (fun k => decide (p < k)) ↔ m ∈ o ∧ p < m := by
  simp

/-- Where an entry beyond the position is set, the choice is the least of those. -/
theorem nextOccupied_beyond {o : List Nat} {p n : Nat} (h : nextOccupied o p = some n) (hbeyond : ∃ m ∈ o, p < m) :
    p < n ∧ ∀ m ∈ o, p < m → n ≤ m := by
  obtain ⟨m, hm, hlt⟩ := hbeyond
  unfold nextOccupied at h
  split at h
  · rename_i k hk
    cases h
    obtain ⟨hmem, hleast⟩ := List.min?_eq_some_iff.1 hk
    exact ⟨(mem_beyond.1 hmem).2, fun j hj hpj => hleast j (mem_beyond.2 ⟨hj, hpj⟩)⟩
  · rename_i hnone
    have hmem := mem_beyond.2 ⟨hm, hlt⟩
    rw [List.min?_eq_none_iff.1 hnone] at hmem
    cases hmem

/-- Where none is, it is the least of all. -/
theorem nextOccupied_round {o : List Nat} {p n : Nat} (h : nextOccupied o p = some n) (hnone : ∀ m ∈ o, m ≤ p) :
    ∀ m ∈ o, n ≤ m := by
  unfold nextOccupied at h
  split at h
  · rename_i k hk
    obtain ⟨hmem, hlt⟩ := mem_beyond.1 (List.min?_mem hk)
    exact absurd (hnone k hmem) (Nat.not_le.2 hlt)
  · exact (List.min?_eq_some_iff.1 h).2

/-! ### A visit leaves the sweep position where the choice put it (R104) -/

theorem answered_sweepPos (s : State) (c : Command) (o : OutcomeCode) (p : List Byte) :
    (answered s c o p).sweepPos = s.sweepPos := by
  unfold answered
  split <;> rfl

theorem claimCommand_sweepPos (s : State) (i : Fin 64) (m : Met) (d : Bool) (c : Command) :
    (claimCommand s i m d c).sweepPos = s.sweepPos := by
  obtain ⟨_, _, _, hframe⟩ := claimOf_frame s m c
  rw [claimCommand_eq, answered_sweepPos, State.setLine_sweepPos, hframe]

theorem recordStep_sweepPos (s : State) (c : Command) (n : Nat) : (recordStep s c n).sweepPos = s.sweepPos := by
  unfold recordStep
  split
  · rfl
  · split
    · exact claimCommand_sweepPos _ _ _ _ _
    · rfl
  · split
    · rename_i ht
      obtain ⟨v, -, rfl⟩ := openEntry_eq (tryOpen_eq ht).2
      rfl
    · rfl

theorem recordCommand_sweepPos (s : State) (c : Command) (o : Option OutcomeCode) :
    (recordCommand s c o).sweepPos = s.sweepPos := by
  have hanswer (x : OutcomeCode) : (answer s c x).sweepPos = s.sweepPos := by
    rw [answer_eq_answered, answered_sweepPos]
  unfold recordCommand
  split
  · split
    · split
      · exact hanswer _
      · exact recordStep_sweepPos s c _
    · exact hanswer _
  · exact hanswer _

theorem engineStep_sweepPos (s : State) : (engineStep s).sweepPos = s.sweepPos := by
  unfold engineStep
  split
  · split
    · exact recordCommand_sweepPos s _ _
    · rfl
  · exact recordStep_sweepPos s _ _
  · rfl

theorem claimsWithin_sweepPos (k : Nat) (s : State) : (claimsWithin k s).sweepPos = s.sweepPos := by
  induction k generalizing s with
  | zero => rfl
  | succ k ih =>
    rw [claimsWithin, ih, engineClaim]
    split
    · rfl
    · exact engineStep_sweepPos s

theorem visitLine_sweepPos (v : VisitEvents) (s : State) (i : Fin 64) : (visitLine v s i).sweepPos = s.sweepPos := by
  unfold visitLine
  split
  · rename_i n r _ _ _ _
    obtain ⟨_, _, _, _, _, _, _, _, hframe⟩ := visitActions_frame v s n r
    dsimp only
    rw [State.setLine_sweepPos, hframe]
  · rfl

/-! ### The placing of a visit (R103 to R106, R108) -/

theorem stepDue_iff (s : State) : stepDue s = true ↔ s.device = .running ∧ s.setup.sweepInterval ≤ s.interval := by
  simp [stepDue]

theorem visitInProgress_iff (s : State) : visitInProgress s = true ↔ s.hold ≠ .none := by
  cases h : s.hold <;> simp [visitInProgress, h, SweepHold.number]

theorem takeDueStep_visiting {s : State} (h : s.hold ≠ .none) (v : VisitEvents) :
    takeDueStep v s = { s with interval := 0, remembered := true } :=
  if_pos ((visitInProgress_iff { s with interval := 0 }).2 h)

theorem takeDueStep_idle {s : State} (h : s.hold = .none) (v : VisitEvents) :
    takeDueStep v s = beginVisit v { s with interval := 0 } :=
  if_neg fun hvisit => (visitInProgress_iff { s with interval := 0 }).1 hvisit h

theorem beginVisit_none {s : State} (h : nextOccupied s.occupancy s.sweepPos = none) (v : VisitEvents) :
    beginVisit v s = s := by
  simp only [beginVisit, h]

/-- The standing of the record chosen is found in the state of the choice: the position does not bear on it (R105). -/
theorem beginVisit_skipped {s : State} {n : Nat} (h : nextOccupied s.occupancy s.sweepPos = some n)
    (hs : standing s n = .named ∨ standing s n = .evicting ∨ standing s n = .held) (v : VisitEvents) :
    beginVisit v s = { s with sweepPos := n } := by
  have hsame : standing { s with sweepPos := n } n = standing s n := rfl
  obtain hs | hs | hs := hs <;> simp only [beginVisit, h, hsame, hs]

theorem beginVisit_absent {s : State} {n : Nat} (h : nextOccupied s.occupancy s.sweepPos = some n)
    (hs : standing s n = .absent) (v : VisitEvents) :
    beginVisit v s = { s with sweepPos := n, hold := .reading n, sweepReq := some (.read n) } := by
  have hsame : standing { s with sweepPos := n } n = standing s n := rfl
  simp only [beginVisit, h, hsame, hs]

theorem beginVisit_resident {s : State} {n : Nat} {i : Fin 64} (h : nextOccupied s.occupancy s.sweepPos = some n)
    (hs : standing s n = .resident i) (v : VisitEvents) :
    beginVisit v s = visitLine v (claimsWithin v.claims { s with sweepPos := n }) i := by
  have hsame : standing { s with sweepPos := n } n = standing s n := rfl
  simp only [beginVisit, h, hsame, hs]

theorem beginVisit_sweepPos {s : State} {n : Nat} (h : nextOccupied s.occupancy s.sweepPos = some n) (v : VisitEvents) :
    (beginVisit v s).sweepPos = n := by
  cases hs : standing s n with
  | named => rw [beginVisit_skipped h (.inl hs)]
  | resident i => rw [beginVisit_resident h hs, visitLine_sweepPos, claimsWithin_sweepPos]
  | evicting => rw [beginVisit_skipped h (.inr (.inl hs))]
  | held => rw [beginVisit_skipped h (.inr (.inr hs))]
  | absent => rw [beginVisit_absent h hs]

theorem exec_sweepStep_early {s : State} (hpin : s.resetPin = false)
    (h : ¬(s.device = .running ∧ s.setup.sweepInterval ≤ s.interval)) (v : VisitEvents) :
    exec (.sweepStep v) s = .next s := by
  simp [exec, execSweepStep, whileRunning, hpin, (stepDue_iff s).not.2 h]

theorem exec_sweepStep_due {s : State} (hpin : s.resetPin = false)
    (h : s.device = .running ∧ s.setup.sweepInterval ≤ s.interval) (v : VisitEvents) :
    exec (.sweepStep v) s = .next (takeDueStep v s) := by
  simp [exec, execSweepStep, whileRunning, hpin, (stepDue_iff s).2 h]

/-- Settles O6: the least entry beyond the position, else the least of all; and the position after each placing of the
visit. -/
theorem nextOccupiedRecord : Obligations.NextOccupiedRecord := by
  unfold Obligations.NextOccupiedRecord
  refine ⟨fun o p => ⟨nextOccupied_eq_none_iff o p, fun n h => ⟨nextOccupied_mem h, nextOccupied_beyond h,
    nextOccupied_round h⟩⟩, fun v s hpin hrun hdue hidle => ⟨_, exec_sweepStep_due hpin ⟨hrun, hdue⟩ v, ?_⟩⟩
  rw [takeDueStep_idle hidle]
  cases hnext : nextOccupied s.occupancy s.sweepPos with
  | none => rw [beginVisit_none (s := { s with interval := 0 }) hnext]
  | some n => exact beginVisit_sweepPos (s := { s with interval := 0 }) hnext v

end Sys2Proof.Proofs

/-! SUPPORT. The visit actions before the moving of owed notices (R110 to R113): the expiry and the idle test of a
refreshed copy, each by the room that the notice queue has. -/

namespace Sys2Proof.Proofs

open Sys2Proof Sys2Proof.Machine Sys2Proof.Safety Sys2Proof.Laws

/-! ### A record that owes nothing (R114) -/

theorem moveKinds_of_empty (n : Nat) (l : List (OwedKind × Option ReadWithin)) {p : State × Record}
    (h : p.2.owed.isEmpty = true) : moveKinds n l p = p := by
  have hnone := (isEmpty_iff p.2.owed).1 h
  induction l with
  | nil => rfl
  | cons x rest ih => rw [moveKinds, hnone x.1, if_neg Bool.false_ne_true, ih]

theorem moveOwed_of_empty {r : Record} (h : r.owed.isEmpty = true) (v : VisitEvents) (s : State) (n : Nat) :
    moveOwed v s n r = (s, r) := by
  rw [moveOwed, moveKinds_of_empty n (movesWith v) (p := (s, r)) h, h]
  rfl

/-! ### The actions by the state found, the expiry and the idle test (R110 to R113) -/

theorem readWithin_now (s : State) (x : Option ReadWithin) : (readWithin s x).now = s.now := by
  obtain ⟨_, _, _, _, _, _, _, _, hframe⟩ := readWithin_visit s x
  rw [hframe]

theorem visitActions_of_vacant {r : Record} (h : r.state = .vacant) (v : VisitEvents) (s : State) (n : Nat) :
    visitActions v s n r = (s, r) := by
  simp only [visitActions, h]

theorem visitActions_of_faulted {r : Record} (h : r.state = .faulted) (v : VisitEvents) (s : State) (n : Nat) :
    visitActions v s n r = moveOwed v s n r := by
  simp only [visitActions, h]

theorem admitted_iff (r : Record) :
    r.admitted = true ↔ r.state = .active ∨ r.state = .held ∨ r.state = .expired := by
  cases h : r.state <;> simp [Record.admitted, h]

/-- The refresh, the expiry, the idleness and the moving, each on what the one before left (R110). -/
theorem visitActions_of_admitted {v : VisitEvents} {s t u : State} {n : Nat} {r q p : Record} (h : r.admitted = true)
    (hexpiry : visitExpiry s n (r.refresh s.now) = (t, q)) (hidle : visitIdle v.idle t n q = (u, p)) :
    visitActions v s n r = moveOwed v u n p := by
  obtain hs | hs | hs := (admitted_iff r).1 h
  all_goals simp only [visitActions, hs, hexpiry, hidle]

theorem isIdle_iff (r : Record) (now : Tick) :
    r.isIdle now = true ↔ r.state = .active ∧ r.idleReported = false ∧
      ∃ l, r.idleLimit = some l ∧ l.toNat ≤ (now - r.lastSeen).toNat := by
  cases h : r.idleLimit <;> simp [Record.isIdle, h, and_comm, and_left_comm]

/-- An admitted record whose expiry is reached becomes EXPIRED, unless it is (R111). -/
theorem visitExpiry_of_lapse {s : State} {r : Record} (ha : r.admitted = true) (hs : r.state ≠ .expired)
    (h : r.expiryReached s.now = true) (n : Nat) :
    visitExpiry s n r =
      offerNotice s { r with state := .expired } .expired ⟨.expired, n, r.generation, s.now⟩ := by
  have hstate : r.state = .active ∨ r.state = .held := ((admitted_iff r).1 ha).imp_right (·.resolve_right hs)
  exact if_pos (by simpa [h] using hstate)

theorem visitExpiry_of_none {s : State} {r : Record}
    (h : r.state = .expired ∨ ∀ e, r.expiry = some e → s.now.toNat < e.toNat) (n : Nat) :
    visitExpiry s n r = (s, r) := by
  refine if_neg fun hlapse => ?_
  obtain ⟨hstate, hreached⟩ := Bool.and_eq_true_iff.1 hlapse
  obtain hs | hlater := h
  · simp [hs] at hstate
  · obtain ⟨e, he, hle⟩ := (expiryReached_iff r s.now).1 hreached
    exact absurd (hlater e he) (Nat.not_lt.2 hle)

theorem visitIdle_of_busy {s : State} {r : Record} (h : r.isIdle s.now = false) (x : Option ReadWithin) (n : Nat) :
    visitIdle x s n r = (s, r) := by
  rw [visitIdle, h, if_neg Bool.false_ne_true]

/-- An EXPIRED record is not judged idle (R111, R112). -/
theorem isIdle_of_expired {r : Record} (h : r.state = .expired) (now : Tick) : r.isIdle now = false := by
  rw [← Bool.not_eq_true, isIdle_iff, h]
  exact fun hidle => RecState.noConfusion hidle.1

/-- An idle record without auto-retire is reported (R112). -/
theorem visitIdle_of_report {s t : State} {r q : Record} {n : Nat} {x : Option ReadWithin} (h : r.isIdle s.now = true)
    (hretire : r.autoRetire = false)
    (hoffer : offerNotice (readWithin s x) r .idle ⟨.idle, n, r.generation, s.now⟩ = (t, q)) :
    visitIdle x s n r = (t, { q with idleReported := true }) := by
  unfold visitIdle
  rw [if_pos h]
  dsimp only
  rw [hretire, readWithin_now, hoffer]
  rfl

/-- An idle record with auto-retire is retired where the queue has room (R113). -/
theorem visitIdle_of_retire {s : State} {r : Record} (h : r.isIdle s.now = true) (hretire : r.autoRetire = true)
    {x : Option ReadWithin} (hroom : (readWithin s x).notices.length < 16) (n : Nat) :
    visitIdle x s n r =
      (endAdmission (pushNotice (readWithin s x) ⟨.idleRetired r.owed, n, r.generation, s.now⟩) n r, r.retired) := by
  have hfree : noticeRoom (readWithin s x) = true := decide_eq_true hroom
  unfold visitIdle
  rw [if_pos h]
  dsimp only
  rw [if_pos hretire, if_pos hfree, readWithin_now]

/-- With no room it is left for the next visit (R113). -/
theorem visitIdle_of_refusal {s : State} {r : Record} (h : r.isIdle s.now = true) (hretire : r.autoRetire = true)
    {x : Option ReadWithin} (hfull : 16 ≤ (readWithin s x).notices.length) (n : Nat) :
    visitIdle x s n r = (readWithin s x, r) := by
  have hno : noticeRoom (readWithin s x) = false := decide_eq_false (Nat.not_lt.2 hfull)
  unfold visitIdle
  rw [if_pos h]
  dsimp only
  rw [if_pos hretire, hno, if_neg Bool.false_ne_true]

/-- A visit that finds the expiry reached: whatever the offer of the EXPIRED notice leaves has its owed notices moved
(R111, R112). -/
theorem visitActions_of_lapse {v : VisitEvents} {s : State} {n : Nat} {r : Record} (ha : r.admitted = true)
    (hs : r.state ≠ .expired) (h : r.expiryReached s.now = true) {t : State} {q : Record}
    (hoffer : offerNotice s { r.refresh s.now with state := .expired } .expired ⟨.expired, n, r.generation, s.now⟩ =
      (t, q)) :
    visitActions v s n r = moveOwed v t n q := by
  have hexpired : q.state = .expired := by
    obtain ⟨_, howed⟩ := (offerNotice_frame s { r.refresh s.now with state := .expired } .expired
      ⟨.expired, n, r.generation, s.now⟩).2
    rw [hoffer] at howed
    exact congrArg Record.state howed
  have hexpiry := (visitExpiry_of_lapse (r := r.refresh s.now) (s := s) ha hs h n).trans hoffer
  exact visitActions_of_admitted ha hexpiry (visitIdle_of_busy (isIdle_of_expired hexpired _) _ _)

/-- A visit that finds no lapse: the moving follows what the idle test leaves of the refreshed record (R112, R113). -/
theorem visitActions_of_current {v : VisitEvents} {s u : State} {n : Nat} {r p : Record} (ha : r.admitted = true)
    (h : r.state = .expired ∨ ∀ e, r.expiry = some e → s.now.toNat < e.toNat)
    (hidle : visitIdle v.idle s n (r.refresh s.now) = (u, p)) : visitActions v s n r = moveOwed v u n p :=
  visitActions_of_admitted ha (visitExpiry_of_none (r := r.refresh s.now) h n) hidle

/-- Settles O8: a case for each record state, then for the expiry and the idleness of an admitted record, with the queue
as the NOTICE-READ before the offer leaves it. -/
theorem visitActionsOutcome : Obligations.VisitActionsOutcome := by
  unfold Obligations.VisitActionsOutcome
  refine fun v s n r => ⟨fun h => visitActions_of_vacant h v s n, fun h => visitActions_of_faulted h v s n,
    fun ha => ⟨fun e he hle hs => ?_, fun hcurrent => ⟨fun hbusy => ?_, ?_⟩⟩⟩
  · have hreached := (expiryReached_iff r s.now).2 ⟨e, he, hle⟩
    exact ⟨fun hroom => visitActions_of_lapse ha hs hreached (offerNotice_room hroom _ _ _),
      fun hfull => visitActions_of_lapse ha hs hreached (offerNotice_full hfull _ _ _)⟩
  · have hnot : (r.refresh s.now).isIdle s.now = false := by
      rw [← Bool.not_eq_true, isIdle_iff]
      exact hbusy
    exact visitActions_of_current ha hcurrent (visitIdle_of_busy hnot _ _)
  · rintro l hactive hunreported hlimit hle u rfl
    have hidle : (r.refresh s.now).isIdle s.now = true :=
      (isIdle_iff _ _).2 ⟨hactive, hunreported, l, hlimit, hle⟩
    obtain ⟨hcount, hmap⟩ := readWithin_counts s v.idle
    refine ⟨fun hretire hroom => ?_, fun hretire hfull => ?_, fun hretire hroom => ?_, fun hretire hfull => ?_⟩
    · exact visitActions_of_current ha hcurrent (visitIdle_of_report hidle hretire (offerNotice_room hroom _ _ _))
    · rw [← hcount]
      exact visitActions_of_current ha hcurrent (visitIdle_of_report hidle hretire (offerNotice_full hfull _ _ _))
    · rw [visitActions_of_current ha hcurrent (visitIdle_of_retire hidle hretire hroom n), moveOwed_of_empty (by rfl),
        ← hcount, ← hmap]
      rfl
    · exact visitActions_of_current ha hcurrent (visitIdle_of_refusal hidle hretire hfull n)

end Sys2Proof.Proofs

/-! SUPPORT. A sweep step with the claims of record commands that fall within it (R104, R107, R115, log 34), and TICK
with the step that is due at it (R24, R102, log 4). -/

namespace Sys2Proof.Proofs

open Sys2Proof Sys2Proof.Machine Sys2Proof.Safety Sys2Proof.Laws

/-! ### The claims that fall between the choice and the visit's claim -/

theorem waits_iff (e : Engine) : e.waits = true ↔ ∃ c, e = .waitingForEntry c ∨ e = .waitingOnEntry c := by
  cases e <;> simp [Engine.waits]

/-- Each record command does at its own event what the Maintenance Engine does with it within a visit (R138, R139). -/
theorem exec_recordCommand_engineStep {s : State} {c : Command} {x : Instr × Byte} (hx : x ∈ recordCommands)
    (h : Current s c x.2) : exec x.1 s = .next (engineStep s) := by
  have ⟨_, hengine, hcode⟩ := h
  have run {code : Byte} {refusal : Command → Option OutcomeCode} (hc : x.2 = code) (hrecord : isRecordCode code = true)
      (hr : ownRefusal s c = refusal c) :
      onCurrent s code (fun c => recordCommand s c (refusal c)) = .next (engineStep s) := by
    have hrecord : isRecordCode c.code = true := by rw [hcode, hc, hrecord]
    rw [onCurrent_of_current (hc ▸ h), ← hr]
    simp only [engineStep, hengine, hrecord, if_true]
  unfold ownRefusal at run
  rw [hcode] at run
  simp only [recordCommands, List.mem_cons, List.not_mem_nil, or_false] at hx
  obtain rfl | rfl | rfl | rfl | rfl | rfl | rfl | rfl := hx
  all_goals exact run rfl rfl rfl

theorem exec_retry_engineStep {s : State} {c : Command} (hpin : s.resetPin = false)
    (he : s.engine = .waitingForEntry c) : exec .commandStepRetry s = .next (engineStep s) := by
  rw [exec_commandStepRetry hpin he]
  simp only [engineStep, he]

/-- A command that completes at its claim is taken within the visit. -/
theorem engineClaim_of_claim {s : State} (h : (engineStep s).engine.waits = false) : engineClaim s = engineStep s :=
  if_neg (by rw [h]; exact Bool.false_ne_true)

/-- One that would wait has no claim there, and falls before the step or after it (log 34). -/
theorem engineClaim_of_wait {s : State} (h : (engineStep s).engine.waits = true) : engineClaim s = s := if_pos h

theorem engineClaim_of_none {s : State} (hwait : ∀ c, s.engine ≠ .waitingForEntry c)
    (hcheck : ∀ c, s.engine = .checking c → ∀ x ∈ recordCommands, c.code ≠ x.2) : engineClaim s = s := by
  have hstep : engineStep s = s := by
    unfold engineStep
    split
    · rename_i c hc
      have hnot : ¬isRecordCode c.code = true := by
        simpa [recordCommands, isRecordCode] using hcheck c hc
      exact if_neg hnot
    · rename_i c hc
      exact absurd hc (hwait c)
    · rfl
  rw [engineClaim, hstep, ite_self]

theorem claimsWithin_of_command {s t : State} (ht : engineStep s = t) (k : Nat) :
    ((∀ d, t.engine ≠ .waitingForEntry d ∧ t.engine ≠ .waitingOnEntry d) →
      claimsWithin (k + 1) s = claimsWithin k t) ∧
    ((∃ d, t.engine = .waitingForEntry d ∨ t.engine = .waitingOnEntry d) →
      claimsWithin (k + 1) s = claimsWithin k s) := by
  subst ht
  refine ⟨fun hclaim => ?_, fun hwait => ?_⟩
  · have hdone : (engineStep s).engine.waits = false := by
      rw [← Bool.not_eq_true, waits_iff]
      rintro ⟨d, hd | hd⟩
      · exact (hclaim d).1 hd
      · exact (hclaim d).2 hd
    rw [claimsWithin, engineClaim_of_claim hdone]
  · rw [claimsWithin, engineClaim_of_wait ((waits_iff _).2 hwait)]

/-! ### The visit's claim on the line (R107) -/

theorem visitLine_of_valid {v : VisitEvents} {s : State} {i : Fin 64} {n : Nat} {r : Record} {d f p : Bool}
    (h : lineAt s.lines i = .valid n r d f p) {x : State × Record} (hx : visitActions v s n r = x) :
    visitLine v s i =
      x.1.setLine i (.valid n x.2 (d || x.2 != r) f (p && (r.state == .vacant || x.2.state != .vacant))) := by
  simp only [visitLine, h, hx]

theorem setLine_self {s : State} {i : Fin 64} {l : Line} (h : lineAt s.lines i = l) : s.setLine i l = s := by
  subst h
  rw [State.setLine, lineAt, Vector.set_getElem_self]

/-- A visit that finds the record VACANT does nothing, and leaves the line's flags (R107). -/
theorem visitLine_of_vacant {s : State} {i : Fin 64} {n : Nat} {r : Record} {d f p : Bool}
    (h : lineAt s.lines i = .valid n r d f p) (hr : r.state = .vacant) (v : VisitEvents) : visitLine v s i = s := by
  rw [visitLine_of_valid h (visitActions_of_vacant hr v s n)]
  simp only [hr, bne_self_eq_false, Bool.or_false, beq_self_eq_true, Bool.and_true]
  exact setLine_self h

/-! ### A RETIRE within the visit (R104, R153, R154) -/

/-- A RETIRE that is not refused leaves the record VACANT, its line unpinned and its map entry cleared. -/
theorem claimRetire_vacates (s : State) {m : Met} {c : Command}
    (h : m.copy.state = .faulted ∨ (m.copy.admitted = true ∧ paramGeneration c = m.copy.generation)) :
    ∃ q payload, q.state = .vacant ∧ claimRetire s m c = ⟨endAdmission s m.number m.copy, q, false, .ok, payload⟩ := by
  obtain hfaulted | ⟨hadmitted, hgeneration⟩ := h
  · exact ⟨m.copy.retiredFaulted, _, rfl, if_pos (by rw [hfaulted]; rfl)⟩
  · have hstate : m.copy.state ≠ .faulted ∧ m.copy.state ≠ .vacant := by
      constructor <;> intro hs <;> simp [Record.admitted, hs] at hadmitted
    have hclaim : claimRetire s m c = ⟨_, _, _, _, _⟩ :=
      (if_neg (by simpa using hstate.1)).trans
        ((if_neg (by simpa using hgeneration)).trans (if_neg (by simpa using hstate.2)))
    exact ⟨m.copy.retired, _, rfl, hclaim⟩

theorem answered_engine (s : State) (c : Command) (o : OutcomeCode) (p : List Byte) :
    (answered s c o p).engine.waits = false := by
  unfold answered
  split <;> rfl

/-- A RETIRE of a resident record that it does not refuse: the record VACANT, its line dirty, referenced and unpinned,
its map entry cleared, the command completed (R63, R139, R153, R154). -/
theorem exec_retire_resident {s : State} {c : Command} {n : Nat} {i : Fin 64} {r : Record} {d f p : Bool}
    (h : RecordCommand s c codeRetire n) (hguard : s.setup.guard ≤ n) (hres : ResidentIn s n i r d f p)
    (hr : r.state = .faulted ∨ (r.admitted = true ∧ paramGeneration c = r.generation)) :
    ∃ q payload, q.state = .vacant ∧
      exec .retire s =
        .next (answered ((endAdmission (countHit s) n r).setLine i (.valid n q true true false)) c .ok payload) := by
  have ⟨⟨_, _, hcode⟩, _, hnumber, _⟩ := h
  have hfree : guardRefusal s c = none := by simp [guardRefusal, guarded, hnumber, hguard]
  have hpass : PassesOwnChecks s c :=
    ⟨fun ha => absurd (hcode.symm.trans ha) (by decide), fun ha => absurd (hcode.symm.trans ha) (by decide),
      fun _ => hfree⟩
  obtain ⟨q, payload, hq, hclaim⟩ := claimRetire_vacates (countHit s) (m := ⟨n, r, p, true, false⟩) hr
  have hof : claimOf (countHit s) ⟨n, r, p, true, false⟩ c = claimRetire (countHit s) ⟨n, r, p, true, false⟩ c := by
    simp only [claimOf, hcode]
    rfl
  have hchanged : (d || q != r) = true := by
    rw [Bool.or_eq_true, bne_iff_ne]
    refine .inr fun hqr => ?_
    simp [← hqr, Record.admitted, hq] at hr
  refine ⟨q, payload, hq, ?_⟩
  rw [exec_recordCommand (x := (.retire, codeRetire)) (by decide) h hpass, recordStep_of_resident hres,
    claimCommand_of_claim _ _ _ _ _ (hof.trans hclaim), ← hchanged]
  rfl

/-- What such a RETIRE leaves for a visit to the record: its claim is whole, and the record is VACANT on its line. -/
theorem engineStep_of_retire {s u : State} {c : Command} {n : Nat} {i : Fin 64} {r : Record} {d f p : Bool}
    (h : RecordCommand s c codeRetire n) (hguard : s.setup.guard ≤ n) (hres : ResidentIn s n i r d f p)
    (hr : r.state = .faulted ∨ (r.admitted = true ∧ paramGeneration c = r.generation))
    (hu : exec .retire s = .next u) :
    engineStep s = u ∧ u.engine.waits = false ∧ u.sweepPos = s.sweepPos ∧ n ∉ u.occupancy ∧
      ∃ q, lineAt u.lines i = .valid n q true true false ∧ q.state = .vacant := by
  have hstep := exec_recordCommand_engineStep (x := (.retire, codeRetire)) (by decide) h.1
  obtain ⟨q, payload, hq, hretire⟩ := exec_retire_resident h hguard hres hr
  obtain rfl := Host.Outcome.next.inj (hu.symm.trans hretire)
  have hquiet := answered_quiet ((endAdmission (countHit s) n r).setLine i (.valid n q true true false)) c .ok payload
  refine ⟨Host.Outcome.next.inj (hstep.symm.trans hu), answered_engine _ _ _ _, ?_, ?_, q, ?_, hq⟩
  · rw [answered_sweepPos, State.setLine_sweepPos, State.endAdmission_sweepPos, State.countHit_sweepPos]
  · rw [hquiet.occupancy, State.setLine_occupancy, State.endAdmission_occupancy, occClear]
    simp
  · rw [hquiet.lines]
    exact (lineAt_set _ i i _).trans (if_pos rfl)

/-- The claim of that RETIRE falls within the visit, which then finds the record VACANT (R104, R107). -/
theorem beginVisit_retired {s u : State} {n : Nat} {i : Fin 64} {q : Record} {d f p : Bool}
    (hnext : nextOccupied s.occupancy s.sweepPos = some n) (hres : standing s n = .resident i)
    (hstep : engineStep { s with sweepPos := n } = u) (hdone : u.engine.waits = false)
    (hline : lineAt u.lines i = .valid n q d f p) (hq : q.state = .vacant) :
    beginVisit { VisitEvents.none with claims := 1 } s = u := by
  subst hstep
  have hclaim : claimsWithin 1 { s with sweepPos := n } = engineStep { s with sweepPos := n } :=
    engineClaim_of_claim hdone
  rw [beginVisit_resident hnext hres]
  exact (congrArg (visitLine _ · i) hclaim).trans (visitLine_of_vacant hline hq _)

/-! ### TICK (R24, R102) -/

theorem exec_tick_early {s : State} (hpin : s.resetPin = false)
    (h : ¬(s.device = .running ∧ s.setup.sweepInterval ≤ s.interval)) : exec .tick s = .next (endTick s) := by
  simp [exec, execTick, whileRunning, hpin, (stepDue_iff s).not.2 h]

theorem exec_tick_due {s : State} (hpin : s.resetPin = false)
    (h : s.device = .running ∧ s.setup.sweepInterval ≤ s.interval) :
    exec .tick s = .next (endTick (takeDueStep .none s)) := by
  simp [exec, execTick, whileRunning, hpin, (stepDue_iff s).2 h]

/-- A sweep step leaves RUNNING, the SETUP and the count as they were, so that the tick's end is that of the tick
itself. -/
theorem endTick_takeDueStep {s : State} (hrun : s.device = .running) (v : VisitEvents) :
    endTick (takeDueStep v s) =
      { takeDueStep v s with
        now := s.now + 1, tickInProgress := s.setup.tickPeriod, interval := (takeDueStep v s).interval + 1 } := by
  obtain ⟨_, _, _, _, -, hkept⟩ := takeDueStep_kept v s
  have hnow : (takeDueStep v s).now = s.now := hkept.now
  have hsetup : (takeDueStep v s).setup = s.setup := hkept.setup
  simp only [endTick, if_pos (hkept.device.trans hrun), hnow, hsetup]

/-! ### The statement -/

/-- A sweep step that is due is remembered while a visit is in progress, and begins one otherwise (R103). -/
theorem exec_sweepStep_cases (v : VisitEvents) {s : State} (hpin : s.resetPin = false) (hrun : s.device = .running)
    (hdue : s.setup.sweepInterval ≤ s.interval) :
    (s.hold ≠ .none → exec (.sweepStep v) s = .next { s with interval := 0, remembered := true }) ∧
      (s.hold = .none → exec (.sweepStep v) s = .next (beginVisit v { s with interval := 0 })) := by
  rw [exec_sweepStep_due hpin ⟨hrun, hdue⟩]
  exact ⟨fun h => by rw [takeDueStep_visiting h], fun h => by rw [takeDueStep_idle h]⟩

/-- Settles O7: the step by the visit in progress, the choice and the standing; the claims within it, one by one; a
RETIRE among them; and TICK, with no step due and with one. -/
theorem sweepStepResult : Obligations.SweepStepResult := by
  unfold Obligations.SweepStepResult
  refine ⟨fun v s hpin => ⟨fun h => exec_sweepStep_early hpin h v, fun hrun hdue => ?_⟩, ⟨fun _ => rfl,
    fun k s t c i hi ht => claimsWithin_of_command ?_ k, fun k s hwait hcheck => ?_⟩, ?_, fun s hpin =>
    ⟨exec_tick_early hpin, fun hrun hdue => ⟨_, exec_sweepStep_due hpin ⟨hrun, hdue⟩ .none, ?_⟩⟩⟩
  · obtain ⟨hvisiting, hidle⟩ := exec_sweepStep_cases v hpin hrun hdue
    refine ⟨hvisiting, fun hh hempty => (hidle hh).trans (congrArg _ (beginVisit_none ?_ v)), fun n hh hnext => ?_⟩
    · exact (nextOccupied_eq_none_iff _ _).2 hempty
    rw [hidle hh]
    refine ⟨fun hs => congrArg _ ?_, fun hs => congrArg _ ?_, fun i hs u hu r d f p hline x hx => congrArg _ ?_⟩
    · exact beginVisit_skipped (s := { s with interval := 0 }) hnext (hs.imp_right .inl) v
    · exact beginVisit_absent (s := { s with interval := 0 }) hnext hs v
    · have hplaced := beginVisit_resident (s := { s with interval := 0 }) hnext hs v
      rw [hplaced, hu, visitLine_of_valid hline hx]
      rfl
  · obtain ⟨x, hx, rfl, hcurrent⟩ | ⟨rfl, hpin, he⟩ := hi
    · exact Host.Outcome.next.inj ((exec_recordCommand_engineStep hx hcurrent).symm.trans ht)
    · exact Host.Outcome.next.inj ((exec_retry_engineStep hpin he).symm.trans ht)
  · rw [claimsWithin, engineClaim_of_none hwait hcheck]
  · intro s u c n i r d f p h hguard hres hr hdue hh hnext hu
    obtain ⟨hstep, hdone, hpos, hclear, q, hline, hq⟩ :=
      engineStep_of_retire (s := { s with interval := 0, sweepPos := n }) h hguard hres hr hu
    have ⟨⟨hpin, _⟩, hrun, _⟩ := h
    obtain ⟨-, hidle⟩ := exec_sweepStep_cases { VisitEvents.none with claims := 1 } hpin hrun hdue
    refine ⟨?_, hpos, hclear, q, hline, hq⟩
    exact (hidle hh).trans (congrArg _ (beginVisit_retired hnext hres.1 hstep hdone hline hq))
  · rw [exec_tick_due hpin ⟨hrun, hdue⟩, endTick_takeDueStep hrun]

end Sys2Proof.Proofs

/-! SUPPORT. The moving of owed notices at a visit (R114, R119, R120): each offer by the room that the NOTICE-READ
before it leaves, and the whole of the moving where no NOTICE-READ falls within. -/

namespace Sys2Proof.Proofs

open Sys2Proof Sys2Proof.Machine Sys2Proof.Safety Sys2Proof.Laws

/-! ### A NOTICE-READ within a visit (R119) -/

/-- It is the event NOTICE_READ, which a link that waits for chip-select to rise does not take (R159). -/
theorem exec_noticeRead_readWithin {s : State} (hpin : s.resetPin = false) (x : ReadWithin) :
    exec (.noticeRead x.entered x.more) s = .next (readWithin s (some x)) := by
  show onLink s _ = _
  rw [onLink, hpin, Bool.false_or]
  rfl

/-! ### One offer of the moving (R114, R119) -/

/-- The notice of an owed kind of record `n`, moved at `now` (R120). -/
def owedNotice (now : Tick) (n : Nat) (r : Record) (k : OwedKind) : Notice := ⟨owedBody r k, n, r.generation, now⟩

/-- What a notice carries does not depend on what else the record owes. -/
theorem owedNotice_setOwed (now : Tick) (n : Nat) (r : Record) (o : OwedSet) :
    owedNotice now n { r with owed := o } = owedNotice now n r := rfl

theorem moveKinds_of_absent {r : Record} {k : OwedKind} (h : r.owed.has k = false) (n : Nat) (x : Option ReadWithin)
    (rest : List (OwedKind × Option ReadWithin)) (s : State) :
    moveKinds n ((k, x) :: rest) (s, r) = moveKinds n rest (s, r) :=
  if_neg (by rw [h]; exact Bool.false_ne_true)

theorem moveKinds_of_room {s : State} {r : Record} {k : OwedKind} {x : Option ReadWithin} (h : r.owed.has k = true)
    (hroom : (readWithin s x).notices.length < 16) (n : Nat) (rest : List (OwedKind × Option ReadWithin)) :
    moveKinds n ((k, x) :: rest) (s, r) =
      moveKinds n rest
        (pushNotice (readWithin s x) (owedNotice s.now n r k), { r with owed := r.owed.remove k }) := by
  rw [← readWithin_now s x]
  exact (if_pos h).trans (if_pos (decide_eq_true hroom))

theorem moveKinds_of_full {s : State} {r : Record} {k : OwedKind} {x : Option ReadWithin} (h : r.owed.has k = true)
    (hfull : 16 ≤ (readWithin s x).notices.length) (n : Nat) (rest : List (OwedKind × Option ReadWithin)) :
    moveKinds n ((k, x) :: rest) (s, r) = (readWithin s x, r) :=
  (if_pos h).trans (if_neg (by simpa [noticeRoom] using hfull))

/-! ### The moving with no NOTICE-READ within it -/

/-- The owed set without the kinds of a list. -/
def without (o : OwedSet) (ks : List OwedKind) : OwedSet := ks.foldl OwedSet.remove o

theorem has_without (o : OwedSet) (ks : List OwedKind) (j : OwedKind) :
    (without o ks).has j = (o.has j && !ks.contains j) := by
  induction ks generalizing o with
  | nil => simp [without]
  | cons k rest ih =>
    show (without (o.remove k) rest).has j = _
    rw [ih, has_remove, List.contains_cons, Bool.not_or, Bool.and_assoc, decide_not]
    rfl

/-- A kind taken from the owed set is no matter for the kinds behind it. -/
theorem filter_has_remove {ks : List OwedKind} {k : OwedKind} (h : k ∉ ks) (o : OwedSet) :
    ks.filter (o.remove k).has = ks.filter o.has := by
  refine List.filter_congr fun j hj => ?_
  have hne : j ≠ k := fun e => h (e ▸ hj)
  rw [has_remove, decide_eq_true hne, Bool.and_true]

/-- As many of the kinds owed, in the order given, enter the queue as it has room for (R114). -/
theorem moveKinds_unread (n : Nat) {ks : List OwedKind} (hks : ks.Nodup) (s : State) (r : Record)
    {moved : List OwedKind} (h : (ks.filter r.owed.has).take (16 - s.notices.length) = moved) :
    moveKinds n (ks.map fun k => (k, none)) (s, r) =
      ({ s with notices := s.notices ++ moved.map (owedNotice s.now n r) },
        { r with owed := without r.owed moved }) := by
  subst h
  induction ks generalizing s r with
  | nil => simp [moveKinds, without]
  | cons k rest ih =>
    obtain ⟨hk, hrest⟩ := List.nodup_cons.1 hks
    rw [List.map_cons]
    cases howed : r.owed.has k with
    | false =>
      rw [moveKinds_of_absent howed, ih hrest, List.filter_cons_of_neg (by rw [howed]; exact Bool.false_ne_true)]
    | true =>
      rw [List.filter_cons_of_pos howed]
      by_cases hroom : s.notices.length < 16
      · have hplaces : 16 - s.notices.length = (16 - (s.notices.length + 1)) + 1 := by omega
        rw [moveKinds_of_room (x := none) howed hroom, ih hrest, hplaces, List.take_succ_cons]
        simp [readWithin, pushNotice, filter_has_remove hk, owedNotice_setOwed, without]
      · have hfull : 16 ≤ s.notices.length := Nat.le_of_not_lt hroom
        rw [moveKinds_of_full (x := none) howed hfull, Nat.sub_eq_zero_of_le hfull]
        simp [readWithin, without]

theorem moveOwed_eq {v : VisitEvents} {s : State} {n : Nat} {r : Record} {q : State × Record}
    (h : moveKinds n (movesWith v) (s, r) = q) :
    moveOwed v s n r =
      ({ q.1 with owedCount := if !r.owed.isEmpty && q.2.owed.isEmpty then q.1.owedCount - 1 else q.1.owedCount },
        q.2) := by
  subst h
  unfold moveOwed
  dsimp only
  split <;> rfl

theorem moveOwed_unread (s : State) (n : Nat) (r : Record) {moved : List OwedKind}
    (h : (owedKinds r.owed).take (16 - s.notices.length) = moved) :
    moveOwed .none s n r =
      ({ s with
          notices := s.notices ++ moved.map (owedNotice s.now n r)
          owedCount := if !r.owed.isEmpty && (without r.owed moved).isEmpty then s.owedCount - 1 else s.owedCount },
        { r with owed := without r.owed moved }) :=
  have hmoved := moveKinds_unread n (ks := [.expired, .idle, .alert, .faulted]) (by decide) s r h
  moveOwed_eq (v := .none) hmoved

/-- Settles O9: the offer by the room of the queue; the NOTICE-READ as the event; one offer of the moving after the
other; and, with no NOTICE-READ, the whole of the moving. -/
theorem noticesQueuedOrOwed : Obligations.NoticesQueuedOrOwed := by
  unfold Obligations.NoticesQueuedOrOwed
  refine ⟨fun s r k x => ⟨fun hroom => offerNotice_room hroom r k x, fun hfull =>
      ⟨r.owed.add k, has_add r.owed k, offerNotice_full hfull r k x⟩⟩,
    fun s => ⟨rfl, fun x hpin => exec_noticeRead_readWithin hpin x⟩, fun v s n r q hq => moveOwed_eq hq,
    fun n k x rest s r => ⟨rfl, fun h => moveKinds_of_absent h n x rest s, ?_⟩, fun s n r =>
    ⟨without r.owed _, has_without r.owed _, ?_⟩⟩
  · rintro howed u rfl
    exact ⟨fun hroom => ⟨r.owed.remove k, has_remove r.owed k, moveKinds_of_room howed hroom n rest⟩,
      fun hfull => moveKinds_of_full howed hfull n rest⟩
  · exact moveOwed_unread s n r rfl

end Sys2Proof.Proofs

/-! SUPPORT. The notice queue, the response queue and the two FIFOs (R118, R119, R128, R130, R163): what every event
puts behind their members, and at which events heads leave. -/

namespace Sys2Proof.Proofs

open Sys2Proof Sys2Proof.Machine Sys2Proof.Safety Sys2Proof.Laws

/-! ### Members put behind the others -/

/-- Members were put behind those of each of the four, and no more than `k` heads left the notice queue before. -/
structure PutBehind (k : Nat) (s t : State) : Prop where
  notices : ∃ j ≤ k, s.notices.drop j <+: t.notices := by exact ⟨0, Nat.zero_le _, ⟨[], List.append_nil _⟩⟩
  responses : s.responses <+: t.responses := by exact ⟨[], List.append_nil _⟩
  ingress : s.ingress <+: t.ingress := by exact ⟨[], List.append_nil _⟩
  egress : s.egress <+: t.egress := by exact ⟨[], List.append_nil _⟩

namespace PutBehind

variable {k : Nat} {s t u : State}

theorem refl (s : State) : PutBehind k s s := { }

theorem trans (h1 : PutBehind 0 s t) (h2 : PutBehind k t u) : PutBehind k s u where
  notices := by
    obtain ⟨_, hi, hst⟩ := h1.notices
    obtain ⟨j, hj, htu⟩ := h2.notices
    rw [Nat.le_zero.1 hi] at hst
    exact ⟨j, hj, (hst.drop j).trans htu⟩
  responses := h1.responses.trans h2.responses
  ingress := h1.ingress.trans h2.ingress
  egress := h1.egress.trans h2.egress

theorem of_kept (h : Kept s t) : PutBehind k s t where
  notices := by
    obtain ⟨new, hnew⟩ := h.notices
    exact ⟨0, Nat.zero_le k, new, hnew.symm⟩
  responses := by
    obtain ⟨new, hnew⟩ := h.responses
    exact ⟨new, hnew.symm⟩
  ingress := by rw [h.ingress]
  egress := by
    obtain ⟨new, hnew⟩ := h.egress
    exact ⟨new, hnew.symm⟩

theorem of_visit (h : KeptByVisit k s t) : PutBehind k s t := by
  obtain ⟨j, out, responses, notices, hj, hkept⟩ := h
  have after := of_kept (k := 0) hkept
  obtain ⟨_, hi, hnotices⟩ := after.notices
  rw [Nat.le_zero.1 hi] at hnotices
  exact ⟨⟨j, hj, hnotices⟩, after.responses, after.ingress, after.egress⟩

end PutBehind

/-! ### The Maintenance Engine and the link -/

theorem answered_putBehind (s : State) (c : Command) (o : OutcomeCode) (p : List Byte) :
    PutBehind 0 s (answered s c o p) := by
  unfold answered
  split <;> exact { responses := ⟨_, rfl⟩ }

theorem answer_putBehind (s : State) (c : Command) (o : OutcomeCode) : PutBehind 0 s (answer s c o) :=
  answer_eq_answered s c o ▸ answered_putBehind s c o []

theorem complete_putBehind (s : State) (c : Command) (o : OutcomeCode) (p : List Byte) :
    PutBehind 0 s (complete s c o p) :=
  complete_eq_answered s c o p ▸ answered_putBehind s c o p

theorem completeOperation_putBehind (s : State) (p : List Byte) : PutBehind 0 s (completeOperation s p) := by
  obtain ⟨c, -, e⟩ | ⟨-, e⟩ := completeOperation_eq s p <;> rw [e]
  · exact answered_putBehind s c .ok p
  · exact .refl s

theorem acceptCommand_putBehind (s : State) (c : Command) : PutBehind 0 s (acceptCommand s c) := by
  unfold acceptCommand takeNext
  split <;> exact { }

theorem execCommand_putBehind {tag code : Byte} {params : List Byte} {check : BitVec 16} {more : Nat} {s t : State}
    (h : execCommand tag code params check s more = .next t) : PutBehind 0 s t := by
  refine onLink_elim h (.refl s) ?_
  split
  · exact .refl s
  · dsimp only
    split
    · exact .trans { } (acceptCommand_putBehind _ _)
    · exact { }

theorem execTransactionAbandon_putBehind {what : Abandoned} {s t : State}
    (h : execTransactionAbandon what s = .next t) : PutBehind 0 s t := by
  cases h
  split
  · exact .refl s
  · split
    · exact { }
    · split <;> exact { }

/-! ### The commands (R142 to R157) -/

theorem setupEffect_putBehind (s : State) (c : Command) : PutBehind 0 s (setupEffect s c) := by
  unfold setupEffect
  split
  · split
    · exact answer_putBehind _ _ _
    · split
      · exact .trans { } (answer_putBehind _ _ _)
      · exact answer_putBehind _ _ _
  · exact answer_putBehind _ _ _

theorem ruleWriteEffect_putBehind (s : State) (c : Command) : PutBehind 0 s (ruleWriteEffect s c) := by
  unfold ruleWriteEffect
  split
  · split
    · split
      · exact .trans { } (answer_putBehind _ _ _)
      · exact answer_putBehind _ _ _
    · exact answer_putBehind _ _ _
  · exact answer_putBehind _ _ _

theorem ruleReadEffect_putBehind (s : State) (c : Command) : PutBehind 0 s (ruleReadEffect s c) := by
  unfold ruleReadEffect
  split
  · split
    · exact complete_putBehind _ _ _ _
    · exact answer_putBehind _ _ _
  · exact answer_putBehind _ _ _

theorem statusEffect_putBehind (s : State) (c : Command) : PutBehind 0 s (statusEffect s c) := by
  unfold statusEffect
  split
  · exact complete_putBehind _ _ _ _
  · exact answer_putBehind _ _ _

theorem formatEffect_putBehind (s : State) (c : Command) : PutBehind 0 s (formatEffect s c) := by
  unfold formatEffect
  split
  · exact { }
  · exact answer_putBehind _ _ _

theorem resumeEffect_putBehind (s : State) (c : Command) : PutBehind 0 s (resumeEffect s c) := by
  unfold resumeEffect
  split
  · exact { }
  · exact answer_putBehind _ _ _

theorem restartEffect_putBehind (s : State) (c : Command) : PutBehind 0 s (restartEffect s c) := by
  unfold restartEffect
  split
  · exact { }
  · exact answer_putBehind _ _ _

/-- A record command is at its checks, and so in no operation (R136). -/
theorem recordEvent_putBehind {code : Byte} {refusal : Command → Option OutcomeCode} {s t : State}
    (h : onCurrent s code (fun c => recordCommand s c (refusal c)) = .next t) : PutBehind 0 s t :=
  onCurrent_elim h (.refl s) fun c he _ => .of_kept (recordCommand_kept (by rw [he]; rfl) c _)

/-! ### The memory path -/

theorem issueNext_putBehind (s : State) : PutBehind 0 s (issueNext s) := by
  unfold issueNext
  repeat' split
  all_goals exact { }

theorem requestWriteBacks_putBehind (s : State) : PutBehind 0 s (requestWriteBacks s) := by
  unfold requestWriteBacks
  split <;> exact { }

theorem execWriteBackComplete_putBehind {s t : State} (h : execWriteBackComplete s = .next t) : PutBehind 0 s t := by
  unfold execWriteBackComplete at h
  split at h
  · split at h
    · exact completing_elim h (.refl s) (.trans { } (.of_kept (evictionWritten_kept _ _ _ _ _)))
    · refine completing_elim h (.refl s) ?_
      obtain hwritten | ⟨hwritten, -⟩ := restartWritten_kept { s with inFlight := _ } _ _ _ _ _ _
      · exact .trans { } (.of_kept hwritten)
      · exact .trans { } (.of_kept hwritten)
    · cases h
      exact .refl s
  · cases h
    exact .refl s

theorem execFillReadComplete_putBehind {damage : Damage} {s t : State}
    (h : execFillReadComplete damage s = .next t) : PutBehind 0 s t := by
  unfold execFillReadComplete at h
  split at h
  · split at h
    · exact completing_elim h (.refl s) (.trans { } (.of_kept (filled_kept _ _ _ damage)))
    · cases h
      exact .refl s
  · cases h
    exact .refl s

theorem execSweepReadComplete_putBehind {damage : Damage} {v : VisitEvents} {s t : State}
    (h : execSweepReadComplete damage s v = .next t) : PutBehind (readCount v) s t := by
  unfold execSweepReadComplete at h
  split at h
  · exact completing_elim h (.refl s) (.trans { } (.of_visit (sweepVisited_kept _ _ damage v)))
  · cases h
    exact .refl s

theorem execSweepWriteComplete_putBehind {v : VisitEvents} {s t : State}
    (h : execSweepWriteComplete s v = .next t) : PutBehind (readCount v) s t := by
  unfold execSweepWriteComplete at h
  split at h
  · exact completing_elim h (.refl s) (.trans { } (.of_visit (sweepWritten_kept _ _ _ v)))
  · cases h
    exact .refl s

/-! ### The device-wide operations (R98 to R100, R178) -/

theorem formatWritten_putBehind (s : State) (n : Nat) : PutBehind 0 s (formatWritten s n) := by
  unfold formatWritten
  dsimp only
  split
  · exact .trans { } (completeOperation_putBehind _ _)
  · exact { }

theorem finishResume_putBehind (s : State) : PutBehind 0 s (finishResume s) := by
  obtain e | ⟨⟨p, e⟩, -⟩ := finishResume_cases s <;> rw [e]
  · exact .refl s
  · exact .trans (t := enterRunning s) { } (completeOperation_putBehind _ p)

theorem resumeJudged_putBehind (s : State) (n next : Nat) (counts : StateCounts) (writes : List (Nat × Record))
    (damage : Damage) : PutBehind 0 s (resumeJudged s n next counts writes damage) := by
  have read : PutBehind 0 s (readImage s n .resume false damage).1 := { }
  have offered := read.trans (.of_kept (k := 0) (offerFaulted_kept _ n (readImage s n .resume false damage).2))
  exact (offered.trans { }).trans (finishResume_putBehind _)

theorem endRestart_putBehind (s : State) (requested : Nat) : PutBehind 0 s (endRestart s requested) :=
  .trans { } (completeOperation_putBehind _ _)

theorem execFormatWriteComplete_putBehind {s t : State} (h : execFormatWriteComplete s = .next t) :
    PutBehind 0 s t := by
  unfold execFormatWriteComplete at h
  split at h
  · exact completing_elim h (.refl s) (.trans { } (formatWritten_putBehind _ _))
  · cases h
    exact .refl s

theorem execResumeReadComplete_putBehind {damage : Damage} {s t : State}
    (h : execResumeReadComplete damage s = .next t) : PutBehind 0 s t := by
  unfold execResumeReadComplete at h
  split at h
  · exact completing_elim h (.refl s) (.trans { } (resumeJudged_putBehind _ _ _ _ _ damage))
  · cases h
    exact .refl s

theorem execResumeWriteComplete_putBehind {s t : State} (h : execResumeWriteComplete s = .next t) :
    PutBehind 0 s t := by
  unfold execResumeWriteComplete at h
  split at h
  · exact completing_elim h (.refl s) (.trans { } (finishResume_putBehind _))
  · cases h
    exact .refl s

/-! ### The events that take no head but by a NOTICE-READ within a visit -/

/-- The event is no reset and does not take the head of one of the four queues itself. -/
def leavesHeads : Instr → Bool
  | .powerOn _ _ _ => false
  | .resetPinAssert _ => false
  | .resetPinDeassert _ => false
  | .ingressHeadLeaves => false
  | .cellEmit => false
  | .responseRead _ _ => false
  | .noticeRead _ _ => false
  | _ => true

/-- Every such event puts members behind, and its notices' heads leave at the NOTICE-READs of its operand (R119). -/
theorem exec_putBehind {c : Instr} {s t : State} (h : exec c s = .next t) (hheads : leavesHeads c = true) :
    PutBehind (noticeReads c) s t := by
  cases c with
  | powerOn | resetPinAssert | resetPinDeassert | ingressHeadLeaves | cellEmit | responseRead | noticeRead =>
    cases hheads
  | tick =>
    refine whileRunning_elim h (.refl s) ?_
    split
    · exact .trans (.of_visit (takeDueStep_kept .none s)) { }
    · exact { }
  | sweepStep during =>
    refine whileRunning_elim h (.refl s) ?_
    split
    · exact .of_visit (takeDueStep_kept during s)
    · exact .refl s
  | ingressTransferBegin first => exact whileRunning_elim h (.refl s) { }
  | partialCellDropped first =>
    refine whileRunning_elim h (.refl s) ?_
    split <;> exact { }
  | cellAccept rest =>
    refine whileRunning_elim h (.refl s) ?_
    split
    · exact .refl s
    · exact { ingress := ⟨_, rfl⟩ }
  | egressPlaceGrant requester =>
    refine whileRunning_elim h (.refl s) ?_
    split
    · split
      · exact .of_kept (grantStage_kept s)
      · exact .of_kept (serveCell_kept s _)
    · exact .refl s
  | memoryIssue =>
    refine whileRunning_elim h (.refl s) ?_
    split
    · exact issueNext_putBehind s
    · exact .refl s
  | writeBackComplete => exact execWriteBackComplete_putBehind h
  | fillReadComplete damage => exact execFillReadComplete_putBehind h
  | sweepReadComplete damage during => exact execSweepReadComplete_putBehind h
  | sweepWriteComplete during => exact execSweepWriteComplete_putBehind h
  | formatWriteComplete => exact execFormatWriteComplete_putBehind h
  | resumeReadComplete damage => exact execResumeReadComplete_putBehind h
  | resumeWriteComplete => exact execResumeWriteComplete_putBehind h
  | restartWriteBackRequest =>
    refine whileRunning_elim h (.refl s) ?_
    split
    · exact requestWriteBacks_putBehind s
    · exact .refl s
  | restartComplete =>
    refine whileRunning_elim h (.refl s) ?_
    split
    · exact endRestart_putBehind s _
    · exact .refl s
  | command tag code params check more => exact execCommand_putBehind h
  | linkStatus more => exact onLink_elim h (.refl s) { }
  | voidTransaction first more =>
    refine onLink_elim h (.refl s) ?_
    split <;> exact { }
  | transactionAbandon what => exact execTransactionAbandon_putBehind h
  | setup => exact onCurrent_elim h (.refl s) fun c _ _ => setupEffect_putBehind s c
  | format => exact onCurrent_elim h (.refl s) fun c _ _ => formatEffect_putBehind s c
  | resume => exact onCurrent_elim h (.refl s) fun c _ _ => resumeEffect_putBehind s c
  | restart => exact onCurrent_elim h (.refl s) fun c _ _ => restartEffect_putBehind s c
  | status => exact onCurrent_elim h (.refl s) fun c _ _ => statusEffect_putBehind s c
  | ruleWrite => exact onCurrent_elim h (.refl s) fun c _ _ => ruleWriteEffect_putBehind s c
  | ruleRead => exact onCurrent_elim h (.refl s) fun c _ _ => ruleReadEffect_putBehind s c
  | admitRecord | amend | hold | release | retire | query | pin | unpin => exact recordEvent_putBehind h
  | commandStepRetry =>
    refine whileRunning_elim h (.refl s) ?_
    split
    · rename_i c he
      exact .of_kept (recordStep_kept (by rw [he]; rfl) c _)
    · exact .refl s

/-! ### The events at which a head leaves -/

/-- What an event leaves of each of the four: heads leave at its own event alone, and members are put behind. -/
structure KeepsOrder (c : Instr) (s t : State) : Prop where
  notices : ∃ k new, k ≤ noticeReads c ∧ t.notices = s.notices.drop k ++ new ∧
      (∀ e m, c = .noticeRead e m → new = []) :=
    by exact ⟨0, [], Nat.zero_le _, (List.append_nil _).symm, fun _ _ _ => rfl⟩
  responses : (∃ new, t.responses = s.responses ++ new) ∨
      ((∃ e m, c = .responseRead e m) ∧ t.responses = s.responses.tail) :=
    by exact .inl ⟨[], (List.append_nil _).symm⟩
  ingress : (∃ new, t.ingress = s.ingress ++ new) ∨ (c = .ingressHeadLeaves ∧ t.ingress = s.ingress.tail) :=
    by exact .inl ⟨[], (List.append_nil _).symm⟩
  egress : (∃ new, t.egress = s.egress ++ new) ∨ (c = .cellEmit ∧ t.egress = s.egress.tail) :=
    by exact .inl ⟨[], (List.append_nil _).symm⟩

namespace KeepsOrder

theorem of_putBehind {c : Instr} {s t : State} (h : PutBehind (noticeReads c) s t)
    (hc : ∀ e m, c ≠ .noticeRead e m) : KeepsOrder c s t where
  notices := by
    obtain ⟨k, hk, new, hnew⟩ := h.notices
    exact ⟨k, new, hk, hnew.symm, fun e m he => absurd he (hc e m)⟩
  responses := .inl (h.responses.imp fun _ => Eq.symm)
  ingress := .inl (h.ingress.imp fun _ => Eq.symm)
  egress := .inl (h.egress.imp fun _ => Eq.symm)

/-- The head cell leaves the Ingress FIFO, whatever then becomes of it (R128). -/
theorem headLeft {s : State} {cell : Cell} {rest : List Cell} (h : s.ingress = cell :: rest) :
    KeepsOrder .ingressHeadLeaves s (headLeft { s with ingress := rest } cell) where
  notices := by
    obtain ⟨new, hnew⟩ := (headLeft_kept { s with ingress := rest } cell).notices
    exact ⟨0, new, Nat.zero_le _, hnew, fun _ _ he => by cases he⟩
  responses := .inl (headLeft_kept { s with ingress := rest } cell).responses
  ingress := .inr ⟨rfl, by rw [(headLeft_kept { s with ingress := rest } cell).ingress, h, List.tail_cons]⟩
  egress := .inl (headLeft_kept { s with ingress := rest } cell).egress

/-- A RESPONSE-READ takes at most the head of the response queue (R164). -/
theorem readResponse (s : State) (entered more : Nat) :
    KeepsOrder (.responseRead entered more) s (readResponse s entered more) := by
  unfold Machine.readResponse
  split
  · exact { }
  · rename_i count _
    by_cases hcount : count = 0
    · rw [if_pos hcount]
      exact { }
    · rw [if_neg hcount]
      exact { responses := .inr ⟨⟨_, _, rfl⟩, rfl⟩ }

/-- A NOTICE-READ takes at most the head of the notice queue, and puts nothing behind (R121). -/
theorem readNotice (s : State) (entered more : Nat) :
    KeepsOrder (.noticeRead entered more) s (readNotice s entered more) := by
  unfold Machine.readNotice
  split
  · exact { }
  · rename_i count _
    by_cases hcount : count = 0
    · rw [if_pos hcount]
      exact { }
    · rw [if_neg hcount, ← List.drop_one]
      exact { notices := ⟨1, [], le_rfl, (List.append_nil _).symm, fun _ _ _ => rfl⟩ }

end KeepsOrder

theorem exec_keepsOrder {c : Instr} {s t : State} (h : exec c s = .next t) (hreset : isResetEvent c = false) :
    KeepsOrder c s t := by
  cases hheads : leavesHeads c with
  | true => exact .of_putBehind (exec_putBehind h hheads) fun e m he => by rw [he] at hheads; cases hheads
  | false =>
    cases c with
    | powerOn | resetPinAssert | resetPinDeassert => cases hreset
    | ingressHeadLeaves =>
      refine whileRunning_elim h { } ?_
      split
      · exact .headLeft (by assumption)
      · exact { }
    | cellEmit =>
      refine whileRunning_elim h { } ?_
      split
      · exact { }
      · rename_i hhead
        exact { egress := .inr ⟨rfl, by rw [hhead, List.tail_cons]⟩ }
    | responseRead entered more => exact onLink_elim h { } (.readResponse s entered more)
    | noticeRead entered more => exact onLink_elim h { } (.readNotice s entered more)
    | _ => cases hheads

/-- Settles O10: every event keeps the order of the four (`exec_keepsOrder`). -/
theorem queuesKeepTheirOrder : Obligations.QueuesKeepTheirOrder := by
  unfold Obligations.QueuesKeepTheirOrder
  intro c s t h hreset
  have order := exec_keepsOrder h hreset
  exact ⟨order.notices, order.responses, order.ingress, order.egress⟩

end Sys2Proof.Proofs

/-! SUPPORT. The cell ports (R126, R127, R130, R133): the start-of-cell byte, the 64th byte of a cell in transfer, and
the emission of the head cell. -/

namespace Sys2Proof.Proofs

open Sys2Proof Sys2Proof.Machine Sys2Proof.Safety Sys2Proof.Laws

/-! ### The ingress transfer (R126, R127) -/

theorem ingressReady_iff (s : State) :
    ingressReady s = true ↔ s.device = .running ∧ s.ingress.length + s.transfer.toList.length < 16 := by
  rw [ingressReady, ingressOpen, Bool.and_eq_true, beq_iff_eq, decide_eq_true_eq]
  rfl

theorem exec_ingressTransferBegin {s : State} (hpin : s.resetPin = false) (first : Byte) :
    exec (.ingressTransferBegin first) s =
      .next { s with transfer := if ingressReady s then some first else none } := by
  simp [exec, execIngressTransferBegin, whileRunning, hpin]

/-- A start-of-cell byte within a transfer does what it does at INGRESS_TRANSFER_BEGIN (log 31). -/
theorem exec_partialCellDropped {s : State} {b : Byte} (h : s.transfer = some b) (first : Byte) :
    exec (.partialCellDropped first) s = exec (.ingressTransferBegin first) s := by
  simp [exec, execPartialCellDropped, execIngressTransferBegin, h]

theorem cellOfTransfer_first (first : Byte) (rest : Vector Byte 63) : (cellOfTransfer first rest)[0] = first := by
  rw [cellOfTransfer, Vector.getElem_cast, Vector.getElem_append_left (by decide)]
  rfl

theorem cellOfTransfer_rest (first : Byte) (rest : Vector Byte 63) (k : Fin 63) :
    (cellOfTransfer first rest)[k.val + 1] = rest[k] := by
  rw [cellOfTransfer, Vector.getElem_cast]
  exact Vector.getElem_append_right (i := k.val + 1) (by omega) (by omega)

theorem exec_cellAccept {s : State} {b : Byte} (hpin : s.resetPin = false) (h : s.transfer = some b)
    (rest : Vector Byte 63) :
    exec (.cellAccept rest) s = .next
      { s with
        transfer := none
        ingress := s.ingress ++ [cellOfTransfer b rest]
        ports := { s.ports with accepted := s.ports.accepted + 1 }
        cellsInside := s.cellsInside + 1 } := by
  simp [exec, execCellAccept, whileRunning, hpin, h]

/-- With no transfer in progress no cell is accepted or cut short (log 1). -/
theorem exec_transfer_none {s : State} (h : s.transfer = none) (first : Byte) (rest : Vector Byte 63) :
    exec (.cellAccept rest) s = .next s ∧ exec (.partialCellDropped first) s = .next s := by
  simp [exec, execCellAccept, execPartialCellDropped, whileRunning, h]

/-! ### The emission (R130, R133) -/

theorem exec_cellEmit_empty {s : State} (h : s.egress = []) : exec .cellEmit s = .next s := by
  simp [exec, execCellEmit, whileRunning, h]

theorem exec_cellEmit {s : State} {x : EgressCell} {rest : List EgressCell} (hpin : s.resetPin = false)
    (h : s.egress = x :: rest) :
    exec .cellEmit s = .next
      { s with
        egress := rest
        ports := s.ports.bumpEmitted x.disposition
        cellsInside := s.cellsInside - 1
        egressOut := some x.cell } := by
  simp [exec, execCellEmit, whileRunning, hpin, h]

/-- An emission raises `emitted` and the counter of its own disposition (R133). -/
theorem bumpEmitted_eq (p : PortCounters) (d : Disposition) :
    p.bumpEmitted d =
      { p with
        emitted := p.emitted + 1
        passed := if d = .pass then p.passed + 1 else p.passed
        marked := if d = .mark then p.marked + 1 else p.marked
        unpoliced := if d = .unpoliced then p.unpoliced + 1 else p.unpoliced } := by
  cases d <;> rfl

/-- Settles O11: each event by its equation, a start-of-cell byte by whether ingress-ready is asserted. -/
theorem cellPortTransfers : Obligations.CellPortTransfers := by
  unfold Obligations.CellPortTransfers
  refine ⟨fun s first rest hpin => ⟨fun hrun hroom => ?_, fun hclosed => ?_, fun b hb => ?_,
    fun hnone => exec_transfer_none hnone first rest⟩, fun s hpin => ⟨exec_cellEmit_empty, fun x rest hx => ?_⟩⟩
  · have begun : exec (.ingressTransferBegin first) s = .next { s with transfer := some first } := by
      rw [exec_ingressTransferBegin hpin, if_pos ((ingressReady_iff s).2 ⟨hrun, hroom⟩)]
    exact ⟨begun, fun b hb => (exec_partialCellDropped hb first).trans begun⟩
  · have dropped : exec (.ingressTransferBegin first) s = .next { s with transfer := none } := by
      rw [exec_ingressTransferBegin hpin, if_neg (mt (ingressReady_iff s).1 hclosed)]
    exact ⟨dropped, fun b hb => (exec_partialCellDropped hb first).trans dropped⟩
  · exact ⟨cellOfTransfer b rest, cellOfTransfer_first b rest, cellOfTransfer_rest b rest, exec_cellAccept hpin hb rest⟩
  · rw [exec_cellEmit hpin hx, bumpEmitted_eq]

end Sys2Proof.Proofs

/-! SUPPORT. The mark of a cell (R131): the bytes that MARK changes, the header check that it leaves, and what fills a
place of the Egress FIFO in each disposition. -/

namespace Sys2Proof.Proofs

open Sys2Proof Sys2Proof.Machine Sys2Proof.Safety Sys2Proof.Laws

/-! ### The bytes of a cell (R180) -/

theorem byteAt_toList (cell : Cell) {i : Nat} (h : i < 64) : byteAt cell.toList i = cell[i] := by
  simp [byteAt, h]

theorem cellLabel_eq (cell : Cell) : cellLabel cell = cell[0] ++ cell[1] ++ cell[2] := by
  simp [cellLabel, field24, byteAt_toList]

theorem cellMark_eq (cell : Cell) : cellMark cell = cell[3].getLsbD 0 := by
  simp [cellMark, byteAt_toList]

theorem cellCheck_eq (cell : Cell) : cellCheck cell = cell[4] ++ cell[5] := by
  simp [cellCheck, field16, byteAt_toList]

theorem headerCrc_eq (cell : Cell) : headerCrc cell = crc16 [cell[0], cell[1], cell[2], cell[3]] := by
  have header : cell.toList.take 4 = [cell[0], cell[1], cell[2], cell[3]] := by
    refine List.ext_getElem (by simp) fun i hi _ => ?_
    have : i < 4 := by simpa using hi
    interval_cases i <;> simp
  rw [headerCrc, header]

/-! ### The cell marked (R131) -/

/-- The check that the marked cell carries: over the header with its mark flag set. -/
def markedCheck (cell : Cell) : BitVec 16 := crc16 [cell[0], cell[1], cell[2], cell[3] ||| 1]

theorem markCell_getElem (cell : Cell) {i : Nat} (h : i < 64) :
    (markCell cell)[i] =
      if i = 5 then (markedCheck cell).extractLsb' 0 8
      else if i = 4 then (markedCheck cell).extractLsb' 8 8
      else if i = 3 then cell[3] ||| 1
      else cell[i] := by
  simp only [markCell, markedCheck, headerCrc_eq, Vector.getElem_set, eq_comm (b := i)]
  simp

theorem headerCrc_markCell (cell : Cell) : headerCrc (markCell cell) = markedCheck cell := by
  simp [headerCrc_eq, markCell_getElem, markedCheck]

theorem cellCheck_markCell (cell : Cell) : cellCheck (markCell cell) = markedCheck cell := by
  simp only [cellCheck_eq, markCell_getElem, reduceIte, Nat.reduceEqDiff]
  exact BitVec.extractLsb'_append_extractLsb'

theorem cellMark_markCell (cell : Cell) : cellMark (markCell cell) = true := by
  simp [cellMark_eq, markCell_getElem]

theorem cellLabel_markCell (cell : Cell) : cellLabel (markCell cell) = cellLabel cell := by
  simp [cellLabel_eq, markCell_getElem]

theorem or_one_of_getLsbD_zero {b : Byte} (h : b.getLsbD 0 = true) : b ||| 1 = b := by
  ext i hi
  by_cases hzero : i = 0
  · subst hzero
    simpa using h
  · simp [hzero]

theorem markedCheck_of_marked {cell : Cell} (h : cellMark cell = true) : markedCheck cell = headerCrc cell := by
  rw [cellMark_eq] at h
  rw [markedCheck, or_one_of_getLsbD_zero h, headerCrc_eq]

/-- A marked cell whose check agrees is marked no further. -/
theorem markCell_of_marked {cell : Cell} (hmark : cellMark cell = true) (hgood : headerCrc cell = cellCheck cell) :
    markCell cell = cell := by
  have hcheck : markedCheck cell = cell[4] ++ cell[5] := by rw [markedCheck_of_marked hmark, hgood, cellCheck_eq]
  rw [cellMark_eq] at hmark
  refine Vector.ext fun i hi => ?_
  rw [markCell_getElem cell hi, hcheck]
  split
  · subst i
    exact BitVec.extractLsb'_append_eq_right
  split
  · subst i
    exact BitVec.extractLsb'_append_eq_left
  split
  · subst i
    exact or_one_of_getLsbD_zero hmark
  · rfl

/-- The check value of the CRC-16 (R179). -/
theorem crc16_digits : crc16 [0x31, 0x32, 0x33, 0x34, 0x35, 0x36, 0x37, 0x38, 0x39] = 0x29B1 := by decide +kernel

/-- Settles O20: the marked cell byte by byte (`markCell_getElem`), and an UNPOLICED cell's place by
`stageGivenPlace`. -/
theorem markedHeader : Obligations.MarkedHeader := by
  unfold Obligations.MarkedHeader
  refine ⟨crc16_digits, fun cell => ⟨fun k h3 h4 h5 => ?_, markCell_getElem cell (by decide), ?_,
    cellMark_markCell cell, cellLabel_markCell cell, markCell_of_marked,
    fun s => ⟨rfl, rfl, fun n hpin hroom hs => ?_⟩⟩⟩
  · exact (markCell_getElem cell k.isLt).trans (by rw [if_neg h5, if_neg h4, if_neg h3]; rfl)
  · rw [headerCrc_markCell, cellCheck_markCell]
  · obtain ⟨-, -, granted⟩ := stageGivenPlace s hpin
    obtain ⟨unpoliced, -⟩ := granted hroom
    exact ⟨_, unpoliced cell n hs, rfl⟩

end Sys2Proof.Proofs

/-! SUPPORT. The conservation law of cells (R133, R134): what each event does to the cells held, to the count of cells
inside and to the device disposition counters. -/

namespace Sys2Proof.Proofs

open Sys2Proof Sys2Proof.Machine Sys2Proof.Safety Sys2Proof.Laws

/-! ### What an operation does to the cells -/

/-- As many cells are held as were, and none was counted. -/
structure SameCells (s t : State) : Prop where
  ports : t.ports = s.ports := by rfl
  inside : t.cellsInside = s.cellsInside := by rfl
  held : cellsHeld t = cellsHeld s := by rfl

/-- One cell more came to be held, or was discarded: what becomes of a cell that was taken from its place (R133). -/
inductive Disposed (s t : State) : Prop
  | placed (ports : t.ports = s.ports) (inside : t.cellsInside = s.cellsInside)
      (held : cellsHeld t = cellsHeld s + 1)
  | discarded (reason : Discard) (ports : t.ports = s.ports.bump reason) (inside : t.cellsInside = s.cellsInside - 1)
      (held : cellsHeld t = cellsHeld s)

/-- One cell was accepted, emitted or discarded, or none (R134). -/
inductive CellStep (s t : State) : Prop
  | accepted (ports : t.ports = { s.ports with accepted := s.ports.accepted + 1 })
      (inside : t.cellsInside = s.cellsInside + 1) (held : cellsHeld t = cellsHeld s + 1)
  | emitted (d : Disposition) (ports : t.ports = s.ports.bumpEmitted d) (inside : t.cellsInside = s.cellsInside - 1)
      (held : cellsHeld t + 1 = cellsHeld s)
  | discarded (reason : Discard) (ports : t.ports = s.ports.bump reason) (inside : t.cellsInside = s.cellsInside - 1)
      (held : cellsHeld t + 1 = cellsHeld s)
  | none (same : SameCells s t)

namespace SameCells

variable {s t u : State}

theorem refl (s : State) : SameCells s s := { }

theorem trans (h1 : SameCells s t) (h2 : SameCells t u) : SameCells s u where
  ports := h2.ports.trans h1.ports
  inside := h2.inside.trans h1.inside
  held := h2.held.trans h1.held

theorem of_notices (h : NoticesOnly s t) : SameCells s t := by
  obtain ⟨new, occupancy, owed, rfl⟩ := h
  exact { }

theorem of_visit {k : Nat} (h : VisitOnly k s t) : SameCells s t := by
  obtain ⟨j, new, out, responses, notices, occupancy, owed, -, rfl⟩ := h
  exact { }

theorem of_link (h : LinkOnly s t) : SameCells s t := by
  obtain ⟨_, _, _, _, _, _, _, rfl⟩ := h
  exact { }

/-- The Miss Table holds as many cells as it did. -/
theorem setTable {l : List Entry} (h : (l.map Entry.cells).sum = (s.missTable.map Entry.cells).sum) :
    SameCells s { s with missTable := l } where
  held := by
    simp only [cellsHeld, pendingTaken, h]

theorem setLine (s : State) (i : Fin 64) (l : Line) : SameCells s (s.setLine i l) := { }

end SameCells

namespace Disposed

variable {s t u : State}

theorem after (h : Disposed t u) (hs : SameCells s t) : Disposed s u := by
  cases h with
  | placed ports inside held =>
    exact .placed (ports.trans hs.ports) (inside.trans hs.inside) (held.trans (congrArg (· + 1) hs.held))
  | discarded reason ports inside held =>
    exact .discarded reason (ports.trans (congrArg (·.bump reason) hs.ports))
      (inside.trans (congrArg (· - 1) hs.inside)) (held.trans hs.held)

theorem andThen (h : Disposed s t) (hu : SameCells t u) : Disposed s u := by
  cases h with
  | placed ports inside held =>
    exact .placed (hu.ports.trans ports) (hu.inside.trans inside) (hu.held.trans held)
  | discarded reason ports inside held =>
    exact .discarded reason (hu.ports.trans ports) (hu.inside.trans inside) (hu.held.trans held)

/-- A cell taken from its place and disposed of was discarded, or is counted by nothing. -/
theorem cellStep (h : Disposed t u) (hports : t.ports = s.ports) (hinside : t.cellsInside = s.cellsInside)
    (hheld : cellsHeld t + 1 = cellsHeld s) : CellStep s u := by
  cases h with
  | placed ports inside held =>
    exact .none ⟨ports.trans hports, inside.trans hinside, held.trans hheld⟩
  | discarded reason ports inside held =>
    exact .discarded reason (hports ▸ ports) (hinside ▸ inside) (held ▸ hheld)

end Disposed

/-! ### The waiting cells of an entry (R74, R75, R78) -/

theorem cells_joinEntry {t : List Entry} {n : Nat} {e : Entry} (h : findEntry t n = some e) (w : Waiter) :
    ((joinEntry t n w).map Entry.cells).sum = (t.map Entry.cells).sum + slots w := by
  obtain ⟨before, after, hat⟩ := entryAt_of_findEntry h
  rw [joinEntry_of_entryAt hat, hat.1]
  simp only [List.map_append, List.map_cons, List.sum_append, List.sum_cons, cells_append]
  omega

theorem cells_popWaiter {t : List Entry} {n : Nat} {e : Entry} {w : Waiter} {ws : List Waiter}
    (h : findEntry t n = some e) (hw : e.waiters = w :: ws) :
    ((popWaiter t n).map Entry.cells).sum + slots w = (t.map Entry.cells).sum := by
  obtain ⟨before, after, hat⟩ := entryAt_of_findEntry h
  have hcells : e.cells = { e with waiters := ws }.cells + slots w := by rw [← cells_cons, ← hw]
  rw [popWaiter_of_entryAt hat, hat.1, hw, List.tail_cons, served]
  split
  · rename_i hempty
    subst hempty
    rw [cells_nil] at hcells
    simp only [List.map_append, List.map_cons, List.sum_append, List.sum_cons]
    omega
  · simp only [List.map_append, List.map_cons, List.sum_append, List.sum_cons]
    omega

/-- Entries that keep the number of their cells. -/
theorem cells_updateEntry (t : List Entry) (n : Nat) {f : Entry → Entry} (hf : ∀ e, (f e).cells = e.cells) :
    ((updateEntry t n fun e => some (f e)).map Entry.cells).sum = (t.map Entry.cells).sum := by
  cases h : findEntry t n with
  | none => rw [updateEntry_of_none (findEntry_none.1 h)]
  | some e =>
    obtain ⟨before, after, hat⟩ := entryAt_of_findEntry h
    rw [updateEntry_of_entryAt hat, hat.1]
    simp [hf]

theorem cells_advancePhase (t : List Entry) (n : Nat) (ph : Phase) :
    (advancePhase t n ph).map Entry.cells = t.map Entry.cells := by
  rw [advancePhase, List.map_map]
  refine List.map_congr_left fun e _ => ?_
  simp only [Function.comp_apply]
  split <;> rfl

/-! ### The Maintenance Engine (R136) -/

theorem answered_cells (s : State) (c : Command) (o : OutcomeCode) (p : List Byte) :
    SameCells s (answered s c o p) := by
  unfold answered
  split <;> exact { }

theorem answer_cells (s : State) (c : Command) (o : OutcomeCode) : SameCells s (answer s c o) :=
  answer_eq_answered s c o ▸ answered_cells s c o []

theorem complete_cells (s : State) (c : Command) (o : OutcomeCode) (p : List Byte) : SameCells s (complete s c o p) :=
  complete_eq_answered s c o p ▸ answered_cells s c o p

theorem completeOperation_cells (s : State) (p : List Byte) : SameCells s (completeOperation s p) := by
  obtain ⟨c, -, e⟩ | ⟨-, e⟩ := completeOperation_eq s p <;> rw [e]
  · exact answered_cells s c .ok p
  · exact .refl s

theorem acceptCommand_cells (s : State) (c : Command) : SameCells s (acceptCommand s c) := by
  unfold acceptCommand takeNext
  split <;> exact { }

/-! ### Claims and waiters (R63, R74) -/

theorem claimCommand_cells (s : State) (i : Fin 64) (m : Met) (d : Bool) (c : Command) :
    SameCells s (claimCommand s i m d c) := by
  rw [claimCommand_eq]
  exact ((SameCells.of_notices (claimOf_frame s m c)).trans (.setLine _ _ _)).trans (answered_cells _ _ _ _)

theorem serveCommand_cells (s : State) (n : Nat) : SameCells s (serveCommand s n) := by
  unfold serveCommand
  split
  · exact .refl s
  · rename_i e he
    split
    · rename_i hw _ _
      exact (SameCells.setTable (cells_popWaiter he hw)).trans (claimCommand_cells _ _ _ _ _)
    · exact .refl s

theorem fillPlace_disposed (s : State) (c : Cell) (d : Disposition) : Disposed s (fillPlace s c d) := by
  refine .placed rfl rfl ?_
  simp only [cellsHeld, pendingTaken, fillPlace, List.length_append, List.length_singleton]
  omega

/-- The cell of an evaluation fills its place, or is discarded (R28, R40). -/
theorem settleCell_disposed (s : State) (c : Cell) (v : Verdict) : Disposed s (settleCell s c v) := by
  cases v with
  | pass => exact fillPlace_disposed s _ _
  | mark => exact fillPlace_disposed s _ _
  | discard reason => exact .discarded reason rfl rfl rfl

theorem claimCell_disposed (s : State) (i : Fin 64) (n : Nat) (r : Record) (d p : Bool) (c : Cell) :
    Disposed s (claimCell s i n r d p c) :=
  (settleCell_disposed _ c _).after ((SameCells.of_notices (offerJudged_frame s n _).1).trans (.setLine _ _ _))

/-- The head waiting cell of an entry is evaluated (R74). -/
theorem serveCell_step (s : State) (n : Nat) : CellStep s (serveCell s n) := by
  unfold serveCell
  split
  · exact .none (.refl s)
  · rename_i e he
    split
    · rename_i hw _
      have hpop := cells_popWaiter he hw
      exact ((claimCell_disposed _ _ _ _ _ _ _).andThen (serveCommand_cells _ n)).cellStep
        (t := { s with missTable := popWaiter s.missTable n }) rfl rfl
        (by simp only [cellsHeld, pendingTaken, ← hpop, slots]; omega)
    · exact .none (.refl s)

/-- An entry opened has its first waiter (R71). -/
theorem tryOpen_held {s t : State} {n : Nat} {w : Waiter} (h : tryOpen s n w = some t) :
    t.ports = s.ports ∧ t.cellsInside = s.cellsInside ∧ t.stage = s.stage ∧ cellsHeld t = cellsHeld s + slots w := by
  obtain ⟨v, -, rfl⟩ := openEntry_eq (tryOpen_eq h).2
  refine ⟨rfl, rfl, rfl, ?_⟩
  have hfirst (e : Entry) : { e with waiters := [w] }.cells = slots w := by
    rw [cells_cons, cells_nil, Nat.zero_add]
  simp only [cellsHeld, pendingTaken, List.map_append, List.map_cons, List.map_nil, List.sum_append, List.sum_cons,
    List.sum_nil, ← hfirst ⟨n, (standing s n).phase, v.target, false, []⟩]
  omega

/-! ### The answers to requesters (R66, R75 to R81, R139) -/

theorem findEntry_of_named {s : State} {n : Nat} (h : standing s n = .named) :
    ∃ e, findEntry s.missTable n = some e := by
  unfold standing at h
  split at h
  · exact Option.isSome_iff_exists.1 (by assumption)
  · split at h
    · cases h
    · split at h
      · cases h
      · split at h <;> cases h

theorem cellsHeld_stage {s : State} {x : StageCell} (h : s.stage = some x) :
    cellsHeld { s with stage := none } + 1 = cellsHeld s := by
  simp only [cellsHeld, pendingTaken, h, Option.toList_some, Option.toList_none, List.length_singleton, List.length_nil]
  omega

/-- The classification stage takes a cell. -/
theorem staged_disposed (s : State) (x : StageCell) : Disposed { s with stage := none } { s with stage := some x } :=
  .placed rfl rfl (cellsHeld_stage (s := { s with stage := some x }) rfl).symm

theorem overflowCell_disposed (s : State) (c : Cell) (n : Nat) :
    Disposed { s with stage := none } (overflowCell s c n) := by
  unfold overflowCell
  split
  · exact .discarded .missOverflow rfl rfl rfl
  · exact staged_disposed s _

/-- A cell offered waits on an entry, waits in the stage, or is discarded (R66). -/
theorem offerCell_disposed (s : State) (c : Cell) (n : Nat) : Disposed { s with stage := none } (offerCell s c n) := by
  unfold offerCell
  split
  · rename_i hnamed
    obtain ⟨e, he⟩ := findEntry_of_named hnamed
    split
    · refine .placed rfl rfl ?_
      simp only [cellsHeld, pendingTaken, cells_joinEntry he, slots]
      omega
    · exact .discarded .missOverflow rfl rfl rfl
  · exact staged_disposed s _
  · split
    · split
      · rename_i t ht
        obtain ⟨hports, hinside, hstage, hheld⟩ := tryOpen_held ht
        refine .placed hports hinside ?_
        simp only [cellsHeld, pendingTaken, hstage, slots] at hheld ⊢
        omega
      · exact overflowCell_disposed s c n
    · exact overflowCell_disposed s c n

theorem unadmittedCell_disposed {s : State} (h : s.stage = none) (c : Cell) (reason : Discard) (n : Option Nat) :
    Disposed s (unadmittedCell s c reason n) := by
  have hsame : { s with stage := none } = s := by rw [← h]
  unfold unadmittedCell
  split
  · exact .discarded reason rfl rfl rfl
  · exact hsame ▸ staged_disposed s _

/-- The head cell that left the Ingress FIFO is in the stage, on an entry, or discarded (R50 to R53, R128). -/
theorem headLeft_disposed {s : State} (h : s.stage = none) (c : Cell) : Disposed s (headLeft s c) := by
  have hsame : { s with stage := none } = s := by rw [← h]
  unfold headLeft
  split
  · unfold classifyCell
    split
    · exact unadmittedCell_disposed h c _ _
    · split
      · have offered := offerCell_disposed s c
        rw [hsame] at offered
        exact offered _
      · exact unadmittedCell_disposed h c _ _
  · exact .discarded .header rfl rfl rfl

/-- The cell in the stage fills its place, is answered anew, or is discarded (R53, R80, R81). -/
theorem grantStage_step (s : State) : CellStep s (grantStage s) := by
  have taken {x : StageCell} (hx : s.stage = some x) {t : State} (ht : Disposed { s with stage := none } t) :
      CellStep s t := ht.cellStep rfl rfl (cellsHeld_stage hx)
  unfold grantStage
  split
  · exact .none (.refl s)
  · rename_i c n hx
    exact taken hx (fillPlace_disposed _ c _)
  · rename_i c n hx
    split
    · split
      · exact taken hx ((claimCell_disposed _ _ _ _ _ _ c).after { })
      · exact .none (.refl s)
    · exact taken hx (offerCell_disposed s c n)

theorem recordStep_cells (s : State) (c : Command) (n : Nat) : SameCells s (recordStep s c n) := by
  unfold recordStep
  split
  · rename_i hnamed
    obtain ⟨e, he⟩ := findEntry_of_named hnamed
    exact (SameCells.setTable (cells_joinEntry he (.command false))).trans { }
  · split
    · exact .trans { } (claimCommand_cells _ _ _ _ c)
    · exact .refl s
  · split
    · rename_i t ht
      obtain ⟨hports, hinside, -, hheld⟩ := tryOpen_held ht
      exact .trans ⟨hports, hinside, hheld⟩ { }
    · exact { }

theorem recordCommand_cells (s : State) (c : Command) (o : Option OutcomeCode) :
    SameCells s (recordCommand s c o) := by
  unfold recordCommand
  split
  · split
    · split
      · exact answer_cells _ _ _
      · exact recordStep_cells _ _ _
    · exact answer_cells _ _ _
  · exact answer_cells _ _ _

/-! ### Sweep steps (R102 to R108) -/

theorem engineClaim_cells (s : State) : SameCells s (engineClaim s) := by
  unfold engineClaim
  split
  · exact .refl s
  · unfold engineStep
    split
    · split
      · exact recordCommand_cells _ _ _
      · exact .refl s
    · exact recordStep_cells _ _ _
    · exact .refl s

theorem claimsWithin_cells (k : Nat) (s : State) : SameCells s (claimsWithin k s) := by
  induction k generalizing s with
  | zero => exact .refl s
  | succ k ih => exact (engineClaim_cells s).trans (ih _)

theorem visitLine_cells (v : VisitEvents) (s : State) (i : Fin 64) : SameCells s (visitLine v s i) := by
  unfold visitLine
  split
  · exact (SameCells.of_visit (visitActions_frame v s _ _)).trans (.setLine _ _ _)
  · exact .refl s

theorem beginVisit_cells (v : VisitEvents) (s : State) : SameCells s (beginVisit v s) := by
  unfold beginVisit
  split
  · exact .refl s
  · dsimp only
    split
    case h_2 => exact .trans { } ((claimsWithin_cells _ _).trans (visitLine_cells v _ _))
    all_goals exact { }

theorem takeDueStep_cells (v : VisitEvents) (s : State) : SameCells s (takeDueStep v s) := by
  unfold takeDueStep takeSweepStep
  split
  · exact { }
  · exact .trans { } (beginVisit_cells v _)

/-! ### The memory path (R73, R83, R84, R108, R109) -/

theorem issueNext_cells (s : State) : SameCells s (issueNext s) := by
  unfold issueNext
  repeat' split
  all_goals exact { }

theorem advancePhase_cells (s : State) (n : Nat) (ph : Phase) :
    SameCells s { s with missTable := advancePhase s.missTable n ph } :=
  .setTable (congrArg List.sum (cells_advancePhase s.missTable n ph))

theorem requestCache_cells (s : State) (q : List CacheReq) : SameCells s (requestCache s q) := { }

theorem writeImage_cells (s : State) (n : Nat) (r : Record) : SameCells s (writeImage s n r) := { }

theorem countWriteBack_cells (s : State) : SameCells s (countWriteBack s) := { }

/-- An image is written back and its line put (R84). -/
theorem writtenBack_cells (s : State) (n : Nat) (copy : Record) (i : Fin 64) (l : Line) :
    SameCells s ((countWriteBack (writeImage s n copy)).setLine i l) :=
  ((writeImage_cells s n copy).trans (countWriteBack_cells _)).trans (.setLine _ i l)

theorem evictionWritten_cells (s : State) (i : Fin 64) (old : Nat) (copy : Record) (reserved : Nat) :
    SameCells s (evictionWritten s i old copy reserved) :=
  ((writtenBack_cells s old copy i (.filling reserved)).trans (advancePhase_cells _ old .waitEvict)).trans
    (requestCache_cells _ _)

theorem emptyLines_cells (s : State) (requested : Nat) : SameCells s (emptyLines s requested) := { }

theorem restartWritten_cells (s : State) (i : Fin 64) (n : Nat) (copy : Record) (f p : Bool) (requested : Nat) :
    SameCells s (restartWritten s i n copy f p requested) := by
  have written := writtenBack_cells s n copy i (.valid n copy false f p)
  unfold restartWritten
  dsimp only
  split
  · exact written.trans (emptyLines_cells _ requested)
  · exact written

theorem offerFaulted_cells (s : State) (n : Nat) (f : Formed) : SameCells s (offerFaulted s n f).1 :=
  .of_notices (offerFaulted_frame s n f).1

theorem filled_cells (s : State) (n : Nat) (i : Fin 64) (damage : Damage) : SameCells s (filled s n i damage) := by
  have read : SameCells s (readImage s n .fill (!occupied s n) damage).1 := { }
  have offered := read.trans (offerFaulted_cells _ n (readImage s n .fill (!occupied s n) damage).2)
  have marked (t : State) (f : Formed) :
      SameCells t { t with missTable := updateEntry t.missTable n fun e => some (filledEntry f e) } :=
    .setTable (cells_updateEntry t.missTable n fun e => by
      unfold filledEntry
      split
      · exact cells_meetFault e
      · rfl)
  exact ((offered.trans (.setLine _ _ _)).trans (marked _ _)).trans (serveCommand_cells _ n)

theorem sweepVisited_cells (s : State) (n : Nat) (damage : Damage) (v : VisitEvents) :
    SameCells s (sweepVisited s n damage v) := by
  have read : SameCells s (readImage s n .sweep false damage).1 := { }
  have offered := read.trans (offerFaulted_cells _ n (readImage s n .sweep false damage).2)
  exact (offered.trans (.of_visit (visitActions_frame v _ n _))).trans { }

theorem sweepWritten_cells (s : State) (n : Nat) (copy : Record) (v : VisitEvents) :
    SameCells s (sweepWritten s n copy v) := by
  have hreleased : SameCells s (released s n copy) :=
    (advancePhase_cells s n .waitSweep).trans { }
  rw [sweepWritten_eq]
  split
  · exact hreleased.trans (.trans { } (beginVisit_cells v _))
  · exact hreleased

theorem requestWriteBacks_cells (s : State) : SameCells s (requestWriteBacks s) := by
  unfold requestWriteBacks
  split
  · exact emptyLines_cells s 0
  · exact { }

/-! ### The device-wide operations (R98 to R100) -/

theorem formatWritten_cells (s : State) (n : Nat) : SameCells s (formatWritten s n) := by
  unfold formatWritten
  dsimp only
  split
  · exact .trans { } (completeOperation_cells _ _)
  · exact { }

theorem finishResume_cells (s : State) : SameCells s (finishResume s) := by
  obtain e | ⟨⟨p, e⟩, -⟩ := finishResume_cases s <;> rw [e]
  · exact .refl s
  · exact .trans (t := enterRunning s) { } (completeOperation_cells _ p)

theorem resumeJudged_cells (s : State) (n next : Nat) (counts : StateCounts) (writes : List (Nat × Record))
    (damage : Damage) : SameCells s (resumeJudged s n next counts writes damage) := by
  have read : SameCells s (readImage s n .resume false damage).1 := { }
  have offered := read.trans (offerFaulted_cells _ n (readImage s n .resume false damage).2)
  exact (offered.trans { }).trans (finishResume_cells _)

/-! ### The commands that name no record (R142 to R146, R54, R59) -/

theorem setupEffect_cells (s : State) (c : Command) : SameCells s (setupEffect s c) := by
  unfold setupEffect
  split
  · split
    · exact answer_cells _ _ _
    · split
      · exact .trans { } (answer_cells _ _ _)
      · exact answer_cells _ _ _
  · exact answer_cells _ _ _

theorem ruleWriteEffect_cells (s : State) (c : Command) : SameCells s (ruleWriteEffect s c) := by
  unfold ruleWriteEffect
  split
  · split
    · split
      · exact .trans { } (answer_cells _ _ _)
      · exact answer_cells _ _ _
    · exact answer_cells _ _ _
  · exact answer_cells _ _ _

theorem ruleReadEffect_cells (s : State) (c : Command) : SameCells s (ruleReadEffect s c) := by
  unfold ruleReadEffect
  split
  · split
    · exact complete_cells _ _ _ _
    · exact answer_cells _ _ _
  · exact answer_cells _ _ _

theorem statusEffect_cells (s : State) (c : Command) : SameCells s (statusEffect s c) := by
  unfold statusEffect
  split
  · exact complete_cells _ _ _ _
  · exact answer_cells _ _ _

theorem formatEffect_cells (s : State) (c : Command) : SameCells s (formatEffect s c) := by
  unfold formatEffect
  split
  · exact { }
  · exact answer_cells _ _ _

theorem resumeEffect_cells (s : State) (c : Command) : SameCells s (resumeEffect s c) := by
  unfold resumeEffect
  split
  · exact { }
  · exact answer_cells _ _ _

theorem restartEffect_cells (s : State) (c : Command) : SameCells s (restartEffect s c) := by
  unfold restartEffect
  split
  · exact { }
  · exact answer_cells _ _ _

/-! ### The completions and the link transactions -/

/-- A transaction in flight completes, and its completion moves no cell. -/
theorem completing_cells {s t u : State} {n : Nat} {rest : List Txn} (h : completing n s u = .next t)
    (hu : SameCells { s with inFlight := rest } u) : SameCells s t :=
  completing_elim h (.refl s) (.trans { } hu)

theorem execWriteBackComplete_cells {s t : State} (h : execWriteBackComplete s = .next t) : SameCells s t := by
  unfold execWriteBackComplete at h
  split at h
  · split at h
    · exact completing_cells h (evictionWritten_cells _ _ _ _ _)
    · exact completing_cells h (restartWritten_cells _ _ _ _ _ _ _)
    · cases h
      exact .refl s
  · cases h
    exact .refl s

theorem execFillReadComplete_cells {damage : Damage} {s t : State} (h : execFillReadComplete damage s = .next t) :
    SameCells s t := by
  unfold execFillReadComplete at h
  split at h
  · split at h
    · exact completing_cells h (filled_cells _ _ _ damage)
    · cases h
      exact .refl s
  · cases h
    exact .refl s

theorem execSweepReadComplete_cells {damage : Damage} {v : VisitEvents} {s t : State}
    (h : execSweepReadComplete damage s v = .next t) : SameCells s t := by
  unfold execSweepReadComplete at h
  split at h
  · exact completing_cells h (sweepVisited_cells _ _ damage v)
  · cases h
    exact .refl s

theorem execSweepWriteComplete_cells {v : VisitEvents} {s t : State} (h : execSweepWriteComplete s v = .next t) :
    SameCells s t := by
  unfold execSweepWriteComplete at h
  split at h
  · exact completing_cells h (sweepWritten_cells _ _ _ v)
  · cases h
    exact .refl s

theorem execFormatWriteComplete_cells {s t : State} (h : execFormatWriteComplete s = .next t) : SameCells s t := by
  unfold execFormatWriteComplete at h
  split at h
  · exact completing_cells h (formatWritten_cells _ _)
  · cases h
    exact .refl s

theorem execResumeReadComplete_cells {damage : Damage} {s t : State}
    (h : execResumeReadComplete damage s = .next t) : SameCells s t := by
  unfold execResumeReadComplete at h
  split at h
  · exact completing_cells h (resumeJudged_cells _ _ _ _ _ damage)
  · cases h
    exact .refl s

theorem execResumeWriteComplete_cells {s t : State} (h : execResumeWriteComplete s = .next t) : SameCells s t := by
  unfold execResumeWriteComplete at h
  split at h
  · exact completing_cells h ((writeImage_cells _ _ _).trans (finishResume_cells _))
  · cases h
    exact .refl s

theorem execCommand_cells {tag code : Byte} {params : List Byte} {check : BitVec 16} {more : Nat} {s t : State}
    (h : execCommand tag code params check s more = .next t) : SameCells s t := by
  refine onLink_elim h (.refl s) ?_
  split
  · exact .refl s
  · dsimp only
    split
    · exact .trans { } (acceptCommand_cells _ _)
    · exact { }

theorem execTransactionAbandon_cells {what : Abandoned} {s t : State}
    (h : execTransactionAbandon what s = .next t) : SameCells s t := by
  cases h
  split
  · exact .refl s
  · split
    · exact { }
    · split <;> exact { }

/-! ### Every event -/

/-- The event may accept, emit or discard a cell, or clear the counters. -/
def movesCells : Instr → Bool
  | .powerOn _ _ _ => true
  | .resetPinAssert _ => true
  | .resetPinDeassert _ => true
  | .cellAccept _ => true
  | .ingressHeadLeaves => true
  | .egressPlaceGrant _ => true
  | .cellEmit => true
  | .restartComplete => true
  | _ => false

theorem exec_sameCells {c : Instr} {s t : State} (h : exec c s = .next t) (hmoves : movesCells c = false) :
    SameCells s t := by
  cases c with
  | powerOn | resetPinAssert | resetPinDeassert | cellAccept | ingressHeadLeaves | egressPlaceGrant | cellEmit
  | restartComplete => cases hmoves
  | tick =>
    refine whileRunning_elim h (.refl s) ?_
    split
    · exact (takeDueStep_cells .none s).trans { }
    · exact { }
  | sweepStep during =>
    refine whileRunning_elim h (.refl s) ?_
    split
    · exact takeDueStep_cells during s
    · exact .refl s
  | ingressTransferBegin first => exact whileRunning_elim h (.refl s) { }
  | partialCellDropped first =>
    refine whileRunning_elim h (.refl s) ?_
    split <;> exact { }
  | memoryIssue =>
    refine whileRunning_elim h (.refl s) ?_
    split
    · exact issueNext_cells s
    · exact .refl s
  | writeBackComplete => exact execWriteBackComplete_cells h
  | fillReadComplete damage => exact execFillReadComplete_cells h
  | sweepReadComplete damage during => exact execSweepReadComplete_cells h
  | sweepWriteComplete during => exact execSweepWriteComplete_cells h
  | formatWriteComplete => exact execFormatWriteComplete_cells h
  | resumeReadComplete damage => exact execResumeReadComplete_cells h
  | resumeWriteComplete => exact execResumeWriteComplete_cells h
  | restartWriteBackRequest =>
    refine whileRunning_elim h (.refl s) ?_
    split
    · exact requestWriteBacks_cells s
    · exact .refl s
  | command tag code params check more => exact execCommand_cells h
  | responseRead entered more => exact onLink_elim h (.refl s) (.of_link (readResponse_linkOnly s _ _))
  | noticeRead entered more => exact onLink_elim h (.refl s) (.of_link (readNotice_linkOnly s _ _))
  | linkStatus more => exact onLink_elim h (.refl s) { }
  | voidTransaction first more =>
    refine onLink_elim h (.refl s) ?_
    split <;> exact { }
  | transactionAbandon what => exact execTransactionAbandon_cells h
  | setup => exact onCurrent_elim h (.refl s) fun c _ _ => setupEffect_cells s c
  | format => exact onCurrent_elim h (.refl s) fun c _ _ => formatEffect_cells s c
  | resume => exact onCurrent_elim h (.refl s) fun c _ _ => resumeEffect_cells s c
  | restart => exact onCurrent_elim h (.refl s) fun c _ _ => restartEffect_cells s c
  | status => exact onCurrent_elim h (.refl s) fun c _ _ => statusEffect_cells s c
  | ruleWrite => exact onCurrent_elim h (.refl s) fun c _ _ => ruleWriteEffect_cells s c
  | ruleRead => exact onCurrent_elim h (.refl s) fun c _ _ => ruleReadEffect_cells s c
  | admitRecord | amend | hold | release | retire | query | pin | unpin =>
    exact onCurrent_elim h (.refl s) fun c _ _ => recordCommand_cells s c _
  | commandStepRetry =>
    refine whileRunning_elim h (.refl s) ?_
    split
    · exact recordStep_cells s _ _
    · exact .refl s

/-- Every event but the resets and the end of RESTART is one acceptance, one emission, one discard, or none (R134). -/
theorem exec_cellStep {c : Instr} {s t : State} (h : exec c s = .next t) (hreset : isResetEvent c = false)
    (hrestart : c ≠ .restartComplete) : CellStep s t := by
  have unmoved : CellStep s s := .none (.refl s)
  cases hmoves : movesCells c with
  | false => exact .none (exec_sameCells h hmoves)
  | true =>
    cases c with
    | powerOn | resetPinAssert | resetPinDeassert => cases hreset
    | restartComplete => exact absurd rfl hrestart
    | cellAccept rest =>
      refine whileRunning_elim h unmoved ?_
      split
      · exact unmoved
      · refine .accepted rfl rfl ?_
        simp only [cellsHeld, pendingTaken, List.length_append, List.length_singleton]
        omega
    | ingressHeadLeaves =>
      refine whileRunning_elim h unmoved ?_
      split
      · rename_i c rest _ hstage hhead
        refine (headLeft_disposed (s := { s with ingress := rest }) hstage c).cellStep rfl rfl ?_
        simp only [cellsHeld, pendingTaken, hhead, List.length_cons]
        omega
      · exact unmoved
    | egressPlaceGrant requester =>
      refine whileRunning_elim h unmoved ?_
      split
      · split
        · exact grantStage_step s
        · exact serveCell_step s _
      · exact unmoved
    | cellEmit =>
      refine whileRunning_elim h unmoved ?_
      split
      · exact unmoved
      · rename_i e rest hhead
        refine .emitted e.disposition rfl rfl ?_
        simp only [cellsHeld, pendingTaken, hhead, List.length_cons]
        omega
    | _ => cases hmoves

/-! ### The conservation law (R134) -/

theorem discarded_bump (p : PortCounters) (reason : Discard) : discarded (p.bump reason) = discarded p + 1 := by
  cases reason <;> simp only [discarded, PortCounters.bump] <;> ring

theorem discarded_bumpEmitted (p : PortCounters) (d : Disposition) : discarded (p.bumpEmitted d) = discarded p := by
  cases d <;> rfl

@[simp] theorem bump_accepted (p : PortCounters) (reason : Discard) : (p.bump reason).accepted = p.accepted := by
  cases reason <;> rfl

@[simp] theorem bump_emitted (p : PortCounters) (reason : Discard) : (p.bump reason).emitted = p.emitted := by
  cases reason <;> rfl

@[simp] theorem bump_passed (p : PortCounters) (reason : Discard) : (p.bump reason).passed = p.passed := by
  cases reason <;> rfl

@[simp] theorem bump_marked (p : PortCounters) (reason : Discard) : (p.bump reason).marked = p.marked := by
  cases reason <;> rfl

@[simp] theorem bump_unpoliced (p : PortCounters) (reason : Discard) : (p.bump reason).unpoliced = p.unpoliced := by
  cases reason <;> rfl

theorem SameCells.conserved {s t : State} (h : SameCells s t) (hs : Conserved s) : Conserved t := by
  rw [Conserved, h.ports, h.inside, h.held]
  exact hs

theorem conserved_of_accepted {s t : State} (hs : Conserved s)
    (hports : t.ports = { s.ports with accepted := s.ports.accepted + 1 }) (hinside : t.cellsInside = s.cellsInside + 1)
    (hheld : cellsHeld t = cellsHeld s + 1) : Conserved t := by
  obtain ⟨hlaw, hsum, hcount⟩ := hs
  rw [Conserved, hports, hinside, hheld, hcount, BitVec.ofNat_add]
  refine ⟨?_, hsum, rfl⟩
  calc s.ports.accepted + 1
      = s.ports.emitted + discarded s.ports + BitVec.ofNat 48 (cellsHeld s) + 1 := by rw [hlaw]
    _ = s.ports.emitted + discarded s.ports + (BitVec.ofNat 48 (cellsHeld s) + 1) := by ring

theorem conserved_of_emitted {s t : State} (hs : Conserved s) {d : Disposition}
    (hports : t.ports = s.ports.bumpEmitted d) (hinside : t.cellsInside = s.cellsInside - 1)
    (hheld : cellsHeld t + 1 = cellsHeld s) : Conserved t := by
  obtain ⟨hlaw, hsum, hcount⟩ := hs
  rw [← hheld, BitVec.ofNat_add] at hlaw
  rw [Conserved, hports, hinside, hcount, ← hheld, discarded_bumpEmitted]
  refine ⟨?_, ?_, rfl⟩
  · rw [bumpEmitted_eq]
    calc s.ports.accepted
        = s.ports.emitted + discarded s.ports + (BitVec.ofNat 48 (cellsHeld t) + 1) := hlaw
      _ = s.ports.emitted + 1 + discarded s.ports + BitVec.ofNat 48 (cellsHeld t) := by ring
  · cases d <;> simp only [PortCounters.bumpEmitted, hsum] <;> ring

theorem conserved_of_discarded {s t : State} (hs : Conserved s) {reason : Discard}
    (hports : t.ports = s.ports.bump reason) (hinside : t.cellsInside = s.cellsInside - 1)
    (hheld : cellsHeld t + 1 = cellsHeld s) : Conserved t := by
  obtain ⟨hlaw, hsum, hcount⟩ := hs
  rw [← hheld, BitVec.ofNat_add] at hlaw
  rw [Conserved, hports, hinside, hcount, ← hheld, discarded_bump]
  refine ⟨?_, by simpa using hsum, rfl⟩
  rw [bump_accepted, bump_emitted]
  calc s.ports.accepted
      = s.ports.emitted + discarded s.ports + (BitVec.ofNat 48 (cellsHeld t) + 1) := hlaw
    _ = s.ports.emitted + (discarded s.ports + 1) + BitVec.ofNat 48 (cellsHeld t) := by ring

theorem CellStep.conserved {s t : State} (h : CellStep s t) (hs : Conserved s) : Conserved t := by
  cases h with
  | accepted ports inside held => exact conserved_of_accepted hs ports inside held
  | emitted d ports inside held => exact conserved_of_emitted hs ports inside held
  | discarded reason ports inside held => exact conserved_of_discarded hs ports inside held
  | none same => exact same.conserved hs

/-- No cell is held, and the counters stand at their reset values (R133, R172, R178). -/
theorem conserved_of_zero {s : State} (hports : s.ports = .zero) (hinside : s.cellsInside = 0)
    (hheld : cellsHeld s = 0) : Conserved s := by
  rw [Conserved, hports, hinside, hheld]
  exact ⟨rfl, rfl, rfl⟩

theorem exec_reset_conserved {c : Instr} {s t : State} (h : exec c s = .next t) (hreset : isResetEvent c = true)
    (hs : Conserved s) : Conserved t := by
  cases c with
  | powerOn low sram errors =>
    cases h
    exact conserved_of_zero rfl rfl rfl
  | resetPinAssert words =>
    cases h
    split
    · exact hs
    · exact conserved_of_zero rfl rfl rfl
  | resetPinDeassert low =>
    cases h
    split
    · exact conserved_of_zero rfl rfl rfl
    · exact hs
  | _ => cases hreset

/-- At the completion of RESTART no cell is held: the drain has left none at the ingress, in the stage or on an entry,
and the Egress FIFO is empty (R87, R178). -/
theorem exec_restartComplete_conserved {s t : State} (h : exec .restartComplete s = .next t) (hc : Coherent s)
    (hs : Conserved s) : Conserved t := by
  refine whileRunning_elim h hs ?_
  split
  · rename_i requested hrestart hegress
    obtain ⟨-, hingress, hstage, htable⟩ := hc.2 (by rw [hrestart]; rfl)
    refine (completeOperation_cells _ _).conserved (conserved_of_zero rfl rfl ?_)
    simp [cellsHeld, pendingTaken, hingress, hstage, htable, hegress]
  · exact hs

theorem exec_conserved {c : Instr} {s t : State} (h : exec c s = .next t) (hc : Coherent s) (hs : Conserved s) :
    Conserved t := by
  cases hreset : isResetEvent c with
  | true => exact exec_reset_conserved h hreset hs
  | false =>
    by_cases hrestart : c = .restartComplete
    · subst hrestart
      exact exec_restartComplete_conserved h hc hs
    · exact (exec_cellStep h hreset hrestart).conserved hs

/-- Settles O52: every event is one cell's step (`exec_cellStep`), a reset, or the completion of RESTART. -/
theorem cellsAreConserved : Obligations.CellsAreConserved := by
  unfold Obligations.CellsAreConserved
  refine ⟨fun s t hc hs hstep => ?_, fun c s t h hreset hrestart => ?_⟩
  · unfold step at hstep
    split at hstep
    · cases hstep
      exact hs
    · exact exec_conserved hstep hc hs
  · cases exec_cellStep h hreset hrestart with
    | accepted ports inside held => exact .inl ⟨ports, inside⟩
    | emitted d ports inside held => exact .inr (.inl ⟨d, ports, inside⟩)
    | discarded reason ports inside held => exact .inr (.inr (.inl ⟨reason, ports, inside⟩))
    | none same => exact .inr (.inr (.inr ⟨same.ports, same.inside⟩))

end Sys2Proof.Proofs

/-! SUPPORT. The agreement of the device state with the operation in progress and with the drain of RESTART (R87, R136,
R170, R171): what leaves the operation as it is, how operations begin and end, and every event. -/

namespace Sys2Proof.Proofs

open Sys2Proof Sys2Proof.Machine Sys2Proof.Safety Sys2Proof.Laws

/-! ### The device states apart -/

section

variable {s : State}

/-- In CONFIG and RUNNING no operation is in progress; in each other device state its own is (R170). -/
theorem coherent_cases (h : Coherent s) :
    (s.device = .config ∨ s.device = .running) ∧ s.restart = .idle ∧ s.pass = .none ∧ inOperation s.engine = false ∨
      s.device = .formatting ∧ s.restart = .idle ∧ isFormat s.pass = true ∧ inOperation s.engine = true ∨
        s.device = .resuming ∧ s.restart = .idle ∧ isResume s.pass = true ∧ inOperation s.engine = true ∨
          s.device = .restarting ∧ s.restart ≠ .idle ∧ s.pass = .none ∧ inOperation s.engine = true := by
  have hagrees := h.1
  unfold OperationAgrees at hagrees
  cases hd : s.device <;> simp only [hd] at hagrees <;> simp [hagrees]

theorem idle_of_no_operation (h : Coherent s) (he : inOperation s.engine = false) :
    s.restart = .idle ∧ s.pass = .none := by
  obtain ⟨-, hr, hp, -⟩ | ⟨-, -, -, hop⟩ | ⟨-, -, -, hop⟩ | ⟨-, -, -, hop⟩ := coherent_cases h
  · exact ⟨hr, hp⟩
  all_goals rw [he] at hop; cases hop

theorem no_restart_of_pass (h : Coherent s) (hp : s.pass ≠ .none) : s.restart = .idle := by
  obtain ⟨-, hr, -, -⟩ | ⟨-, hr, -, -⟩ | ⟨-, hr, -, -⟩ | ⟨-, -, hnone, -⟩ := coherent_cases h
  · exact hr
  · exact hr
  · exact hr
  · exact absurd hnone hp

theorem restarting_of_restart (h : Coherent s) (hr : s.restart ≠ .idle) :
    s.device = .restarting ∧ s.pass = .none ∧ inOperation s.engine = true := by
  obtain ⟨-, hidle, -, -⟩ | ⟨-, hidle, -, -⟩ | ⟨-, hidle, -, -⟩ | ⟨hd, -, hp, he⟩ := coherent_cases h
  · exact absurd hidle hr
  · exact absurd hidle hr
  · exact absurd hidle hr
  · exact ⟨hd, hp, he⟩

/-- With no RESTART begun the drain asks for nothing. -/
theorem coherent_of_agrees (h : OperationAgrees s) (hr : s.restart = .idle) : Coherent s :=
  ⟨h, fun hpast => by rw [hr] at hpast; cases hpast⟩

/-- No operation is in progress. -/
theorem coherent_of_ended (hd : s.device = .config ∨ s.device = .running) (hr : s.restart = .idle)
    (hp : s.pass = .none) (he : inOperation s.engine = false) : Coherent s := by
  refine coherent_of_agrees ?_ hr
  unfold OperationAgrees
  rcases hd with hd | hd <;> rw [hd] <;> exact ⟨hr, hp, he⟩

end

/-! ### What leaves the operation in progress as it is -/

/-- No cell is at the ingress, in the classification stage or on an entry: what the drain of RESTART comes to (R87). -/
structure NothingWaits (s : State) : Prop where
  transfer : s.transfer = none
  ingress : s.ingress = []
  stage : s.stage = none
  table : s.missTable = []

theorem nothingWaits_of_drain {s : State} (h : DrainHolds s) (hpast : pastDrain s.restart = true) : NothingWaits s := by
  obtain ⟨htransfer, hingress, hstage, htable⟩ := h hpast
  exact ⟨htransfer, hingress, hstage, htable⟩

/-- The operation in progress goes on as it was, and in RESTARTING nothing comes to wait where nothing waited. -/
structure OperationKept (s t : State) : Prop where
  device : t.device = s.device := by rfl
  restart : t.restart = s.restart := by rfl
  format : isFormat t.pass = isFormat s.pass := by rfl
  resume : isResume t.pass = isResume s.pass := by rfl
  noPass : s.pass = .none → t.pass = .none := by exact id
  engine : inOperation t.engine = inOperation s.engine := by rfl
  waits : s.device = .restarting → inOperation s.engine = true → NothingWaits s → NothingWaits t := by
    exact fun _ _ hw => ⟨hw.transfer, hw.ingress, hw.stage, hw.table⟩

namespace OperationKept

variable {s t u : State}

theorem refl (s : State) : OperationKept s s := { }

theorem trans (h1 : OperationKept s t) (h2 : OperationKept t u) : OperationKept s u where
  device := h2.device.trans h1.device
  restart := h2.restart.trans h1.restart
  format := h2.format.trans h1.format
  resume := h2.resume.trans h1.resume
  noPass := h2.noPass ∘ h1.noPass
  engine := h2.engine.trans h1.engine
  waits hd he := h2.waits (h1.device.trans hd) (h1.engine.trans he) ∘ h1.waits hd he

theorem of_kept (h : Kept s t)
    (hwaits : inOperation s.engine = true → NothingWaits s → t.stage = none ∧ t.missTable = []) :
    OperationKept s t where
  device := h.device
  restart := h.restart
  format := by rw [h.pass]
  resume := by rw [h.pass]
  noPass hp := h.pass.trans hp
  engine := h.operation
  waits _ he hw := by
    obtain ⟨hstage, htable⟩ := hwaits he hw
    exact ⟨h.transfer.trans hw.transfer, h.ingress.trans hw.ingress, hstage, htable⟩

/-- Where nothing waits nothing happens. -/
theorem of_waiting (h : Kept s t) (hsame : inOperation s.engine = true → NothingWaits s → t = s) :
    OperationKept s t :=
  of_kept h fun he hw => by rw [hsame he hw]; exact ⟨hw.stage, hw.table⟩

/-- The Maintenance Engine is in no operation. -/
theorem of_idle (h : Kept s t) (he : inOperation s.engine = false) : OperationKept s t :=
  of_kept h fun hop => by rw [he] at hop; cases hop

theorem of_linkOnly (h : LinkOnly s t) : OperationKept s t := by
  obtain ⟨_, _, _, _, _, _, _, rfl⟩ := h
  exact { }

theorem of_visit {k : Nat} (h : VisitOnly k s t) : OperationKept s t := by
  obtain ⟨_, _, _, _, _, _, _, -, rfl⟩ := h
  exact { }

/-- Device state, operation and drain stay in agreement. -/
theorem coherent (h : OperationKept s t) (hs : Coherent s) : Coherent t := by
  refine ⟨?_, fun hpast => ?_⟩
  · have hagrees := hs.1
    unfold OperationAgrees at hagrees ⊢
    rw [h.device, h.restart, h.format, h.resume, h.engine]
    cases hd : s.device <;> simp only [hd] at hagrees ⊢ <;> obtain ⟨hr, hp, he⟩ := hagrees
    case formatting | resuming => exact ⟨hr, hp, he⟩
    all_goals exact ⟨hr, h.noPass hp, he⟩
  · rw [h.restart] at hpast
    obtain ⟨hd, -, he⟩ := restarting_of_restart hs fun hr => by rw [hr] at hpast; cases hpast
    obtain ⟨htransfer, hingress, hstage, htable⟩ := h.waits hd he (nothingWaits_of_drain hs.2 hpast)
    exact ⟨htransfer, hingress, hstage, htable⟩

end OperationKept

/-! ### Claims and visits -/

theorem engineClaim_of_operation {s : State} (h : inOperation s.engine = true) : engineClaim s = s := by
  have hstep : engineStep s = s := by
    unfold engineStep
    split
    · rename_i he
      rw [he] at h
      cases h
    · rename_i he
      rw [he] at h
      cases h
    · rfl
  rw [engineClaim, hstep, ite_self]

theorem claimsWithin_operation (k : Nat) (s : State) : OperationKept s (claimsWithin k s) := by
  induction k generalizing s with
  | zero => exact .refl s
  | succ k ih =>
    exact .trans (.of_waiting (engineClaim_kept s) fun he _ => engineClaim_of_operation he) (ih (engineClaim s))

theorem visitLine_operation (v : VisitEvents) (s : State) (i : Fin 64) : OperationKept s (visitLine v s i) := by
  unfold visitLine
  split
  · exact (OperationKept.of_visit (visitActions_frame v s _ _)).trans { }
  · exact .refl s

theorem beginVisit_operation (v : VisitEvents) (s : State) : OperationKept s (beginVisit v s) := by
  unfold beginVisit
  split
  · exact .refl s
  · rename_i n _
    have positioned : OperationKept s { s with sweepPos := n } := { }
    dsimp only
    split
    · exact positioned
    · exact (positioned.trans (claimsWithin_operation _ _)).trans (visitLine_operation v _ _)
    · exact positioned
    · exact positioned
    · exact positioned.trans { }

theorem takeDueStep_operation (v : VisitEvents) (s : State) : OperationKept s (takeDueStep v s) := by
  have counted : OperationKept s { s with interval := 0 } := { }
  unfold takeDueStep takeSweepStep
  split
  · exact counted.trans { }
  · exact counted.trans (beginVisit_operation v _)

/-! ### The cell path -/

/-- The ingress is closed outside RUNNING (R127). -/
theorem startOfCell_operation (s : State) (first : Byte) :
    OperationKept s { s with transfer := if ingressReady s then some first else none } where
  waits hd _ hw := by
    have hclosed : ingressReady s = false := by simp [ingressReady, ingressOpen, hd]
    exact ⟨by simp [hclosed], hw.ingress, hw.stage, hw.table⟩

theorem cellAccepted_operation {s : State} {first : Byte} (h : s.transfer = some first) (c : Cell) (p : PortCounters)
    (k : Nat) :
    OperationKept s { s with transfer := none, ingress := s.ingress ++ [c], ports := p, cellsInside := k } where
  waits _ _ hw := by
    have hnone := hw.transfer
    rw [h] at hnone
    cases hnone

theorem headLeft_operation {s : State} {c : Cell} {rest : List Cell} (h : s.ingress = c :: rest) :
    OperationKept s (headLeft { s with ingress := rest } c) := by
  have hkept := headLeft_kept { s with ingress := rest } c
  refine { device := hkept.device, restart := hkept.restart, format := by rw [hkept.pass], resume := by rw [hkept.pass],
           noPass := hkept.pass.trans, engine := hkept.operation, waits := fun _ _ hw => ?_ }
  have hnil := hw.ingress
  rw [h] at hnil
  cases hnil

theorem grantStage_operation (s : State) : OperationKept s (grantStage s) :=
  .of_waiting (grantStage_kept s) fun _ hw => by rw [grantStage, hw.stage]

theorem serveCell_operation (s : State) (n : Nat) : OperationKept s (serveCell s n) :=
  .of_waiting (serveCell_kept s n) fun _ hw => by
    have hnone : findEntry s.missTable n = none := by rw [hw.table]; rfl
    rw [serveCell, hnone]

/-! ### The memory path -/

theorem issueNext_operation (s : State) : OperationKept s (issueNext s) := by
  unfold issueNext
  split
  · rename_i hp
    split
    · exact { format := by rw [hp]; rfl, resume := by rw [hp]; rfl, noPass := fun hn => by rw [hp] at hn; cases hn }
    · exact .refl s
  · rename_i hp
    exact { format := by rw [hp]; rfl, resume := by rw [hp]; rfl, noPass := fun hn => by rw [hp] at hn; cases hn }
  · rename_i hp
    split
    · exact { format := by rw [hp]; rfl, resume := by rw [hp]; rfl, noPass := fun hn => by rw [hp] at hn; cases hn }
    · exact .refl s
  · split
    · exact { }
    · split
      · exact { }
      · exact .refl s

theorem writeImage_operation (s : State) (n : Nat) (r : Record) : OperationKept s (writeImage s n r) := by
  unfold writeImage
  exact { }

theorem evictionWritten_operation (s : State) (i : Fin 64) (old : Nat) (copy : Record) (reserved : Nat) :
    OperationKept s (evictionWritten s i old copy reserved) := by
  refine (writeImage_operation s old copy).trans (.of_kept (evictionWritten_kept s i old copy reserved) fun _ hw => ?_)
  have hstage : s.stage = none := by simpa using hw.stage
  have htable : s.missTable = [] := by simpa using hw.table
  simp [evictionWritten, requestReady, hstage, htable, advancePhase]

/-- A fill has its entry in the Miss Table (R70). -/
theorem filled_operation {s : State} {n m : Nat} {e : Entry} (h : findEntry s.missTable m = some e) (i : Fin 64)
    (damage : Damage) : OperationKept s (filled s n i damage) := by
  have read : OperationKept s (damaged s n damage) := { }
  refine read.trans (.of_kept (filled_kept s n i damage) fun _ hw => ?_)
  rw [show s.missTable = [] from hw.table] at h
  cases h

theorem sweepVisited_operation (s : State) (n : Nat) (damage : Damage) (v : VisitEvents) :
    OperationKept s (sweepVisited s n damage v) := by
  have read : OperationKept s (readImage s n .sweep false damage).1 := { }
  have offered := read.trans (.of_visit (offerFaulted_frame _ n (readImage s n .sweep false damage).2).1.visit)
  exact (offered.trans (.of_visit (visitActions_frame v _ n _))).trans { }

theorem sweepWritten_operation (s : State) (n : Nat) (copy : Record) (v : VisitEvents) :
    OperationKept s (sweepWritten s n copy v) := by
  have hreleased : OperationKept s (released s n copy) := by
    refine (writeImage_operation s n copy).trans (.of_kept ((setHoldTable_kept _ .none
      (advancePhase s.missTable n .waitSweep)).trans (requestReady_kept s _)) fun _ hw => ?_)
    have hstage : s.stage = none := by simpa using hw.stage
    have htable : s.missTable = [] := by simpa using hw.table
    show (released s n copy).stage = none ∧ (released s n copy).missTable = []
    simp [released, requestReady, hstage, htable, advancePhase]
  rw [sweepWritten_eq]
  split
  · exact (hreleased.trans { }).trans (beginVisit_operation v _)
  · exact hreleased

/-! ### The completions of operations -/

theorem inOperation_answered (s : State) (c : Command) (o : OutcomeCode) (p : List Byte) :
    inOperation (answered s c o p).engine = false := by
  unfold answered
  split <;> rfl

/-- What the completion of an operation leaves of it: no command in operation, and nothing else differs. -/
theorem completeOperation_ended (s : State) (p : List Byte) :
    inOperation (completeOperation s p).engine = false ∧ (completeOperation s p).device = s.device ∧
      (completeOperation s p).restart = s.restart ∧ (completeOperation s p).pass = s.pass := by
  obtain ⟨c, -, h⟩ | ⟨he, h⟩ := completeOperation_eq s p <;> rw [h]
  · refine ⟨inOperation_answered s c .ok p, ?_⟩
    unfold answered
    split <;> exact ⟨rfl, rfl, rfl⟩
  · exact ⟨he, rfl, rfl, rfl⟩

theorem coherent_of_completed {s : State} (hd : s.device = .config ∨ s.device = .running) (hr : s.restart = .idle)
    (hp : s.pass = .none) (payload : List Byte) : Coherent (completeOperation s payload) := by
  obtain ⟨he, hdevice, hrestart, hpass⟩ := completeOperation_ended s payload
  exact coherent_of_ended (hdevice ▸ hd) (hrestart.trans hr) (hpass.trans hp) he

/-- A pass ends (R175, R176). -/
theorem enterRunning_coherent {s : State} (hr : s.restart = .idle) (payload : List Byte) :
    Coherent (completeOperation (enterRunning s) payload) :=
  coherent_of_completed (.inr rfl) (by simpa using hr) rfl payload

theorem formatWritten_coherent {s : State} (hs : Coherent s) {next : Nat} (hp : s.pass = .format next) (n : Nat) :
    Coherent (formatWritten s n) := by
  have hr : s.restart = .idle := no_restart_of_pass hs (by simp [hp])
  unfold formatWritten endFormat
  dsimp only
  split
  · exact enterRunning_coherent (by simpa using hr) _
  · exact (writeImage_operation s n Record.blank).coherent hs

theorem finishResume_coherent {s : State} (hs : Coherent s) : Coherent (finishResume s) := by
  unfold finishResume
  split
  · rename_i hp
    split
    · exact enterRunning_coherent (no_restart_of_pass hs (by simp [hp])) _
    · exact hs
  · exact hs

theorem resumeJudged_coherent {s : State} (hs : Coherent s) {next : Nat} {counts : StateCounts}
    {writes : List (Nat × Record)} (hp : s.pass = .resume next counts writes) (n : Nat) (damage : Damage) :
    Coherent (resumeJudged s n next counts writes damage) := by
  have read : OperationKept s (readImage s n .resume false damage).1 := { }
  have hpass : (offerFaulted (readImage s n .resume false damage).1 n (readImage s n .resume false damage).2).1.pass =
      .resume next counts writes := (offerFaulted_kept _ n _).pass.trans hp
  have offered := read.trans (.of_visit (offerFaulted_frame _ n (readImage s n .resume false damage).2).1.visit)
  refine finishResume_coherent (OperationKept.coherent (offered.trans ?_) hs)
  exact { format := by rw [hpass]; rfl, resume := by rw [hpass]; rfl,
          noPass := fun hn => by rw [hpass] at hn; cases hn }

/-! ### RESTART -/

/-- The Record Store's part of RESTART goes on when nothing waits (R87). -/
theorem coherent_pastDrain {s : State} (hs : Coherent s) (hr : s.restart ≠ .idle) (hw : NothingWaits s)
    {x : RestartPhase} (hx : x ≠ .idle) : Coherent { s with restart := x } := by
  obtain ⟨hd, hp, he⟩ := restarting_of_restart hs hr
  refine ⟨?_, fun _ => ⟨hw.transfer, hw.ingress, hw.stage, hw.table⟩⟩
  unfold OperationAgrees
  simp only [hd]
  exact ⟨hx, hp, he⟩

theorem emptyLines_operation (s : State) (requested : Nat) :
    OperationKept { s with restart := .emptied requested } (emptyLines s requested) :=
  .of_kept (emptyLines_kept s requested) fun _ hw => ⟨hw.stage, hw.table⟩

theorem requestWriteBacks_coherent {s : State} (hs : Coherent s) (h : drained s = true) :
    Coherent (requestWriteBacks s) := by
  obtain ⟨-, hr, htransfer, hstage, hingress, htable, -⟩ := (drained_iff s).1 h
  have moved {x : RestartPhase} (hx : x ≠ .idle) : Coherent { s with restart := x } :=
    coherent_pastDrain hs (by simp [hr]) ⟨htransfer, hingress, hstage, htable⟩ hx
  unfold requestWriteBacks
  split
  · exact (emptyLines_operation s 0).coherent (moved (by simp))
  · exact OperationKept.coherent { } (moved (x := .writingBack (dirtyLines s).length) (by simp))

theorem restartWritten_coherent {s : State} (hs : Coherent s) {requested : Nat}
    (hr : s.restart = .writingBack requested) (i : Fin 64) (n : Nat) (copy : Record) (f p : Bool) :
    Coherent (restartWritten s i n copy f p requested) := by
  have hkept := (writeImage_operation s n copy).trans (.of_kept
    ((countWriteBack_kept _).trans (setLine_kept _ i (.valid n copy false f p))) fun _ hw =>
      ⟨by simpa using hw.stage, by simpa using hw.table⟩)
  unfold restartWritten
  dsimp only
  generalize (countWriteBack (writeImage s n copy)).setLine i (.valid n copy false f p) = t at *
  have htc : Coherent t := hkept.coherent hs
  have htr : t.restart = .writingBack requested := hkept.restart.trans hr
  split
  · refine (emptyLines_operation t requested).coherent ?_
    exact coherent_pastDrain htc (by simp [htr]) (nothingWaits_of_drain htc.2 (by rw [htr]; rfl)) (by simp)
  · exact htc

theorem endRestart_coherent {s : State} (hs : Coherent s) (hr : s.restart ≠ .idle) (requested : Nat) :
    Coherent (endRestart s requested) := by
  obtain ⟨-, hp, -⟩ := restarting_of_restart hs hr
  unfold endRestart
  refine coherent_of_completed (.inl ?_) ?_ ?_ _
  · rfl
  · rfl
  · exact hp

/-! ### Resets, commands and the link -/

theorem reset_coherent (s : State) (asserted linkWaits : Bool) (m : Memory) :
    Coherent { resetDevice s asserted linkWaits with memory := m } :=
  coherent_of_ended (.inl rfl) rfl rfl rfl

theorem takeNext_operation (s : State) : OperationKept s (takeNext s) := by
  unfold takeNext
  split
  · rename_i he _
    exact { engine := by rw [he]; rfl }
  · exact .refl s

theorem complete_operation {s : State} (he : inOperation s.engine = false) (c : Command) (o : OutcomeCode)
    (p : List Byte) : OperationKept s (complete s c o p) := by
  rw [complete_eq_answered]
  exact .of_idle (answered_kept he c o p) he

theorem answer_operation {s : State} (he : inOperation s.engine = false) (c : Command) (o : OutcomeCode) :
    OperationKept s (answer s c o) :=
  complete_operation he c o []

section

variable {s : State} (he : inOperation s.engine = false) (c : Command)

include he

theorem setupEffect_operation : OperationKept s (setupEffect s c) := by
  unfold setupEffect
  split
  · split
    · exact answer_operation he _ _
    · split
      · exact .trans { } (answer_operation (by exact he) _ _)
      · exact answer_operation he _ _
  · exact answer_operation he _ _

theorem statusEffect_operation : OperationKept s (statusEffect s c) := by
  unfold statusEffect
  split
  · exact complete_operation he _ _ _
  · exact answer_operation he _ _

theorem ruleWriteEffect_operation : OperationKept s (ruleWriteEffect s c) := by
  unfold ruleWriteEffect
  split
  · split
    · split
      · exact .trans { } (answer_operation (by exact he) _ _)
      · exact answer_operation he _ _
    · exact answer_operation he _ _
  · exact answer_operation he _ _

theorem ruleReadEffect_operation : OperationKept s (ruleReadEffect s c) := by
  unfold ruleReadEffect
  split
  · split
    · exact complete_operation he _ _ _
    · exact answer_operation he _ _
  · exact answer_operation he _ _

theorem formatEffect_coherent (hs : Coherent s) : Coherent (formatEffect s c) := by
  unfold formatEffect
  split
  · exact coherent_of_agrees ⟨(idle_of_no_operation hs he).1, rfl, rfl⟩ (idle_of_no_operation hs he).1
  · exact (answer_operation he _ _).coherent hs

theorem resumeEffect_coherent (hs : Coherent s) : Coherent (resumeEffect s c) := by
  unfold resumeEffect
  split
  · exact coherent_of_agrees ⟨(idle_of_no_operation hs he).1, rfl, rfl⟩ (idle_of_no_operation hs he).1
  · exact (answer_operation he _ _).coherent hs

theorem restartEffect_coherent (hs : Coherent s) : Coherent (restartEffect s c) := by
  unfold restartEffect
  split
  · exact ⟨⟨RestartPhase.noConfusion, (idle_of_no_operation hs he).2, rfl⟩, fun hpast => by cases hpast⟩
  · exact (answer_operation he _ _).coherent hs

end

theorem execCommand_operation {tag code : Byte} {params : List Byte} {check : BitVec 16} {more : Nat} {s t : State}
    (h : execCommand tag code params check s more = .next t) : OperationKept s t := by
  refine onLink_elim h (.refl s) ?_
  split
  · exact .refl s
  · dsimp only
    split
    · exact .trans { } (takeNext_operation _)
    · exact { }

theorem execTransactionAbandon_operation {what : Abandoned} {s t : State}
    (h : execTransactionAbandon what s = .next t) : OperationKept s t := by
  cases h
  split
  · exact .refl s
  · split
    · exact { }
    · split <;> exact { }

/-! ### Every event -/

/-- A record command's event: the command is the current one, and so in no operation (R136). -/
theorem recordEvent_operation {code : Byte} {refusal : Command → Option OutcomeCode} {s t : State}
    (h : onCurrent s code (fun c => recordCommand s c (refusal c)) = .next t) : OperationKept s t :=
  onCurrent_elim h (.refl s) fun c hc _ => by
    have he : inOperation s.engine = false := by rw [hc]; rfl
    exact .of_idle (recordCommand_kept he c _) he

/-- The event of a command that names no record: its effect is taken while the Maintenance Engine is in no operation. -/
theorem commandEvent_coherent {code : Byte} {effect : Command → State} {s t : State}
    (h : onCurrent s code effect = .next t) (hs : Coherent s)
    (heffect : inOperation s.engine = false → ∀ c, Coherent (effect c)) : Coherent t :=
  onCurrent_elim h hs fun c hc _ => heffect (by rw [hc]; rfl) c

theorem execWriteBackComplete_coherent {s t : State} (h : execWriteBackComplete s = .next t) (hs : Coherent s) :
    Coherent t := by
  unfold execWriteBackComplete at h
  split at h
  · rename_i rest _
    have landed : OperationKept s { s with inFlight := rest } := { }
    split at h
    · exact completing_elim h hs ((landed.trans (evictionWritten_operation _ _ _ _ _)).coherent hs)
    · rename_i hr
      exact completing_elim h hs (restartWritten_coherent (landed.coherent hs) hr _ _ _ _ _)
    · cases h
      exact hs
  · cases h
    exact hs

theorem execFillReadComplete_operation {damage : Damage} {s t : State} (h : execFillReadComplete damage s = .next t) :
    OperationKept s t := by
  unfold execFillReadComplete at h
  split at h
  · rename_i n rest _
    have landed : OperationKept s { s with inFlight := rest } := { }
    split at h
    · rename_i hentry
      exact completing_elim h (.refl s)
        (landed.trans (filled_operation (s := { s with inFlight := rest }) hentry _ damage))
    · cases h
      exact .refl s
  · cases h
    exact .refl s

theorem execSweepReadComplete_operation {damage : Damage} {during : VisitEvents} {s t : State}
    (h : execSweepReadComplete damage s during = .next t) : OperationKept s t := by
  unfold execSweepReadComplete at h
  split at h
  · exact completing_elim h (.refl s) (.trans { } (sweepVisited_operation _ _ damage during))
  · cases h
    exact .refl s

theorem execSweepWriteComplete_operation {during : VisitEvents} {s t : State}
    (h : execSweepWriteComplete s during = .next t) : OperationKept s t := by
  unfold execSweepWriteComplete at h
  split at h
  · exact completing_elim h (.refl s) (.trans { } (sweepWritten_operation _ _ _ during))
  · cases h
    exact .refl s

theorem execFormatWriteComplete_coherent {s t : State} (h : execFormatWriteComplete s = .next t) (hs : Coherent s) :
    Coherent t := by
  unfold execFormatWriteComplete at h
  split at h
  · rename_i rest _ _ hp
    have landed : OperationKept s { s with inFlight := rest } := { }
    exact completing_elim h hs (formatWritten_coherent (landed.coherent hs) hp _)
  · cases h
    exact hs

theorem execResumeReadComplete_coherent {damage : Damage} {s t : State} (h : execResumeReadComplete damage s = .next t)
    (hs : Coherent s) : Coherent t := by
  unfold execResumeReadComplete at h
  split at h
  · rename_i rest _ _ _ _ hp
    have landed : OperationKept s { s with inFlight := rest } := { }
    exact completing_elim h hs (resumeJudged_coherent (landed.coherent hs) hp _ damage)
  · cases h
    exact hs

theorem execResumeWriteComplete_coherent {s t : State} (h : execResumeWriteComplete s = .next t) (hs : Coherent s) :
    Coherent t := by
  unfold execResumeWriteComplete at h
  split at h
  · rename_i n copy rest _
    have landed : OperationKept s { s with inFlight := rest } := { }
    exact completing_elim h hs (finishResume_coherent ((landed.trans (writeImage_operation _ n copy)).coherent hs))
  · cases h
    exact hs

/-- Every event keeps the agreement of device state, operation in progress and drain. -/
theorem exec_coherent {c : Instr} {s t : State} (h : exec c s = .next t) (hs : Coherent s) : Coherent t := by
  have kept {u : State} (hu : OperationKept s u) : Coherent u := hu.coherent hs
  cases c with
  | powerOn low sram errors =>
    cases h
    exact reset_coherent s false low _
  | resetPinAssert words =>
    cases h
    split
    · exact hs
    · exact reset_coherent s true false _
  | resetPinDeassert low =>
    cases h
    split
    · exact reset_coherent s false low s.memory
    · exact hs
  | tick =>
    refine whileRunning_elim h hs (kept ?_)
    split
    · exact (takeDueStep_operation .none s).trans { }
    · exact { }
  | sweepStep during =>
    refine whileRunning_elim h hs (kept ?_)
    split
    · exact takeDueStep_operation during s
    · exact .refl s
  | ingressTransferBegin first => exact whileRunning_elim h hs (kept (startOfCell_operation s first))
  | partialCellDropped first =>
    refine whileRunning_elim h hs (kept ?_)
    split
    · exact .refl s
    · exact startOfCell_operation s first
  | cellAccept rest =>
    refine whileRunning_elim h hs (kept ?_)
    split
    · exact .refl s
    · exact cellAccepted_operation (by assumption) _ _ _
  | ingressHeadLeaves =>
    refine whileRunning_elim h hs (kept ?_)
    split
    · exact headLeft_operation (by assumption)
    · exact .refl s
  | egressPlaceGrant requester =>
    refine whileRunning_elim h hs (kept ?_)
    split
    · split
      · exact grantStage_operation s
      · exact serveCell_operation s _
    · exact .refl s
  | cellEmit =>
    refine whileRunning_elim h hs (kept ?_)
    split <;> exact { }
  | memoryIssue =>
    refine whileRunning_elim h hs (kept ?_)
    split
    · exact issueNext_operation s
    · exact .refl s
  | writeBackComplete => exact execWriteBackComplete_coherent h hs
  | fillReadComplete damage => exact kept (execFillReadComplete_operation h)
  | sweepReadComplete damage during => exact kept (execSweepReadComplete_operation h)
  | sweepWriteComplete during => exact kept (execSweepWriteComplete_operation h)
  | formatWriteComplete => exact execFormatWriteComplete_coherent h hs
  | resumeReadComplete damage => exact execResumeReadComplete_coherent h hs
  | resumeWriteComplete => exact execResumeWriteComplete_coherent h hs
  | restartWriteBackRequest =>
    refine whileRunning_elim h hs ?_
    split
    · exact requestWriteBacks_coherent hs (by assumption)
    · exact hs
  | restartComplete =>
    refine whileRunning_elim h hs ?_
    split
    · rename_i hr _
      exact endRestart_coherent hs (by simp [hr]) _
    · exact hs
  | command tag code params check more => exact kept (execCommand_operation h)
  | responseRead entered more => exact onLink_elim h hs (kept (.of_linkOnly (readResponse_linkOnly s _ _)))
  | noticeRead entered more => exact onLink_elim h hs (kept (.of_linkOnly (readNotice_linkOnly s _ _)))
  | linkStatus more => exact onLink_elim h hs (kept { })
  | voidTransaction first more =>
    refine onLink_elim h hs (kept ?_)
    split <;> exact { }
  | transactionAbandon what => exact kept (execTransactionAbandon_operation h)
  | setup => exact commandEvent_coherent h hs fun he c => kept (setupEffect_operation he c)
  | format => exact commandEvent_coherent h hs fun he c => formatEffect_coherent he c hs
  | resume => exact commandEvent_coherent h hs fun he c => resumeEffect_coherent he c hs
  | restart => exact commandEvent_coherent h hs fun he c => restartEffect_coherent he c hs
  | status => exact commandEvent_coherent h hs fun he c => kept (statusEffect_operation he c)
  | ruleWrite => exact commandEvent_coherent h hs fun he c => kept (ruleWriteEffect_operation he c)
  | ruleRead => exact commandEvent_coherent h hs fun he c => kept (ruleReadEffect_operation he c)
  | admitRecord => exact kept (recordEvent_operation h)
  | amend => exact kept (recordEvent_operation h)
  | hold => exact kept (recordEvent_operation h)
  | release => exact kept (recordEvent_operation h)
  | retire => exact kept (recordEvent_operation h)
  | query => exact kept (recordEvent_operation h)
  | pin => exact kept (recordEvent_operation h)
  | unpin => exact kept (recordEvent_operation h)
  | commandStepRetry =>
    refine whileRunning_elim h hs (kept ?_)
    split
    · rename_i c hc
      have he : inOperation s.engine = false := by rw [hc]; rfl
      exact .of_idle (recordStep_kept he c _) he
    · exact .refl s

/-- Settles O51: every event leaves the operation in progress as it is, begins one, goes on with it or ends it. -/
theorem coherenceIsKept : Obligations.CoherenceIsKept := by
  unfold Obligations.CoherenceIsKept
  intro s t hs hstep
  unfold step at hstep
  split at hstep
  · cases hstep
    exact hs
  · rename_i i rest _
    have taken : OperationKept s { s with pending := rest } := { }
    exact exec_coherent hstep (taken.coherent hs)

end Sys2Proof.Proofs

/-! SUPPORT. The bytes of the fields that the part sends (R181, R182), and the commands that name no record. -/

namespace Sys2Proof.Proofs

open Sys2Proof Sys2Proof.Machine Sys2Proof.Safety Sys2Proof.Laws

/-! ### Fields in bytes, most significant first -/

@[simp] theorem length_beBytes (k v : Nat) : (beBytes k v).length = k := by
  induction k with
  | zero => rfl
  | succ k ih => rw [beBytes, List.length_cons, ih]

theorem beBytes_eq_map (k v : Nat) :
    beBytes k v = (List.range k).map fun i => BitVec.ofNat 8 (v / 256 ^ (k - 1 - i)) := by
  induction k with
  | zero => rfl
  | succ k ih =>
    rw [beBytes, ih, List.range_succ_eq_map, List.map_cons, List.map_map]
    congr 1
    refine List.map_congr_left fun i _ => ?_
    simp only [Function.comp_apply, Nat.succ_eq_add_one]
    congr 3
    omega

/-- A byte of a field, counted from its least significant one. -/
theorem extractLsb'_ofNat {k j : Nat} (h : j < k) (v : Nat) :
    (BitVec.ofNat (8 * k) v).extractLsb' (8 * j) 8 = BitVec.ofNat 8 (v / 256 ^ j) := by
  have hpow : 256 ^ j = 2 ^ (8 * j) := by rw [Nat.pow_mul]
  refine BitVec.eq_of_getLsbD_eq fun i hi => ?_
  have hlt : 8 * j + i < 8 * k := by omega
  simp only [hpow, BitVec.getLsbD_extractLsb', BitVec.getLsbD_ofNat, Nat.testBit_div_two_pow, hi, hlt, decide_true,
    Bool.true_and, Nat.add_comm i]

theorem beBytes_eq_msFirst (k v : Nat) : beBytes k v = msFirst k (BitVec.ofNat (8 * k) v) := by
  rw [beBytes_eq_map, msFirst]
  refine List.map_congr_left fun i hi => ?_
  rw [extractLsb'_ofNat]
  have := List.mem_range.1 hi
  omega

theorem beBytes_toNat (k : Nat) (v : BitVec (8 * k)) : beBytes k v.toNat = msFirst k v := by
  rw [beBytes_eq_msFirst, BitVec.ofNat_toNat, BitVec.setWidth_eq]

/-- The bits of a flag byte are the members of its list, in order. -/
theorem getLsbD_flagByte (bits : List Bool) {k : Nat} (hk : k < 8) : (flagByte bits).getLsbD k = bits.getD k false := by
  have hbit (bits : List Bool) (k : Nat) :
      (bits.foldr (fun (b : Bool) n => 2 * n + b.toNat) 0).testBit k = bits.getD k false := by
    induction bits generalizing k with
    | nil => simp
    | cons b t ih =>
      rw [List.foldr_cons]
      cases k with
      | zero => cases b <;> simp [Nat.testBit_zero]
      | succ k =>
        have hhalf (n : Nat) : (2 * n + b.toNat) / 2 = n := by cases b <;> simp; omega
        rw [Nat.testBit_succ, hhalf, ih, List.getD_cons_succ]
  rw [flagByte, BitVec.getLsbD_ofNat, hbit]
  simp [hk]

theorem eq_flagByte {flags : Byte} {bits : List Bool} (h : ∀ k, k < 8 → flags.getLsbD k = bits.getD k false) :
    flags = flagByte bits :=
  BitVec.eq_of_getLsbD_eq fun k hk => (h k hk).trans (getLsbD_flagByte bits hk).symm

theorem flagByte_singleton (b : Bool) : flagByte [b] = if b then 1 else 0 := by
  cases b <;> rfl

/-! ### SETUP (R142) -/

theorem policy_ofCode (b : Byte) :
    Policy.ofCode b = if 1 < b.toNat then none else some (if b = 0 then .discard else .pass) := by
  unfold Policy.ofCode
  by_cases h0 : b = 0
  · rw [h0]
    rfl
  · by_cases h1 : b = 1
    · rw [h1]
      rfl
    · have hlt : 1 < b.toNat := by bv_omega
      rw [if_neg h0, if_neg h1, if_pos hlt]

theorem paramSetup_none {c : Command} (h : 1 < (byteAt c.params 8).toNat ∨ 1 < (byteAt c.params 9).toNat) :
    paramSetup c = none := by
  unfold paramSetup
  rw [policy_ofCode, policy_ofCode]
  obtain h | h := h
  · rw [if_pos h]
  · rw [if_pos h]
    split <;> simp_all

theorem paramSetup_some {c : Command} (h8 : ¬1 < (byteAt c.params 8).toNat) (h9 : ¬1 < (byteAt c.params 9).toNat) :
    paramSetup c =
      some
        ⟨(field16 c.params 0).toNat, (field16 c.params 2).toNat, (field16 c.params 4).toNat,
          (field16 c.params 6).toNat, if byteAt c.params 8 = 0 then .discard else .pass,
          if byteAt c.params 9 = 0 then .discard else .pass⟩ := by
  unfold paramSetup
  rw [policy_ofCode, policy_ofCode, if_neg h8, if_neg h9]

/-- What each of the constraints on SETUP's values refuses. -/
theorem setupAllowed_eq_false (s : State) (p : SetupParams) :
    setupAllowed s p = false ↔
      (p.capacity ≠ 4096 ∧ p.capacity ≠ 8192 ∧ p.capacity ≠ 16384) ∨ p.tickPeriod < 1 ∨ 1000 < p.tickPeriod ∨
        p.sweepInterval < 1 ∨ 65535 < p.sweepInterval ∨ p.capacity < p.guard ∨
        (∃ v, s.preserved = some v ∧
          (v.capacity ≠ p.capacity ∨ v.tickPeriod ≠ p.tickPeriod ∨ v.guard ≠ p.guard)) ∨
        ∃ k : Fin 16, p.capacity < (s.rules[k]).recordBase + (s.rules[k]).rangeLength := by
  have hrules : (s.rules.toList.all fun r => decide (r.recordBase + r.rangeLength ≤ p.capacity)) = false ↔
      ∃ k : Fin 16, p.capacity < (s.rules[k]).recordBase + (s.rules[k]).rangeLength := by
    rw [List.all_eq_false]
    constructor
    · rintro ⟨r, hr, hlt⟩
      obtain ⟨k, hk, rfl⟩ := List.getElem_of_mem hr
      exact ⟨⟨k, by simpa using hk⟩, by simpa using hlt⟩
    · rintro ⟨k, hlt⟩
      exact ⟨s.rules[k], by simp, by simpa using hlt⟩
  unfold setupAllowed
  simp only [Bool.and_eq_false_iff, hrules, Bool.or_eq_false_iff, beq_eq_false_iff_ne, decide_eq_false_iff_not, not_le,
    or_assoc, and_assoc]
  cases s.preserved with
  | none => simp only [Bool.true_eq_false, reduceCtorEq, false_and, exists_false, false_or]
  | some v =>
    simp only [Bool.and_eq_false_iff, beq_eq_false_iff_ne, Option.some.injEq, exists_eq_left', or_assoc,
      @ne_comm _ v.capacity, @ne_comm _ v.tickPeriod, @ne_comm _ v.guard]

theorem setupEffect_unnamed {s : State} (hd : s.device = .config) {c : Command} (hp : paramSetup c = none) :
    setupEffect s c = answered s c .badSetup [] := by
  simp only [setupEffect, hd, hp, if_true, answer_eq_answered]

theorem setupEffect_given {s : State} (hd : s.device = .config) {c : Command} {p : SetupParams}
    (hp : paramSetup c = some p) :
    setupEffect s c =
      if setupAllowed s p then answered { s with setup := p, sweepPos := p.capacity - 1 } c .ok []
      else answered s c .badSetup [] := by
  simp only [setupEffect, hd, hp, if_true, answer_eq_answered]

/-- Settles O37: the policy codes that name a policy, then the constraints on the values. -/
theorem setupResult : Obligations.SetupResult := by
  unfold Obligations.SetupResult
  rintro s c hcurrent hd _ _ _ _ rfl rfl rfl rfl refused
  have hexec : exec .setup s = .next (setupEffect s c) := onCurrent_of_current hcurrent _
  rw [hexec]
  by_cases hpolicy : 1 < (byteAt c.params 8).toNat ∨ 1 < (byteAt c.params 9).toNat
  · rw [setupEffect_unnamed hd (paramSetup_none hpolicy)]
    have hr : refused := .inr (.inr (.inr (.inr (.inr (hpolicy.imp_right .inl)))))
    exact ⟨fun _ => rfl, fun hnot => absurd hr hnot⟩
  · obtain ⟨h8, h9⟩ := not_or.1 hpolicy
    have hfits : ¬65535 < (field16 c.params 4).toNat := by
      have := (field16 c.params 4).isLt
      omega
    rw [setupEffect_given hd (paramSetup_some h8 h9)]
    generalize hp : SetupParams.mk _ _ _ _ _ _ = p
    have hrefused : refused ↔ setupAllowed s p = false := by
      rw [setupAllowed_eq_false, ← hp]
      simp only [refused, h8, h9, hfits, false_or]
    rw [hrefused]
    cases setupAllowed s p with
    | false => exact ⟨fun _ => rfl, fun hnot => absurd rfl hnot⟩
    | true => exact ⟨fun hno => (by cases hno), fun _ => (by rw [← hp]; rfl)⟩

/-! ### FORMAT, RESUME and RESTART (R143 to R145) -/

/-- Settles O38: each operation in the device state in which it begins. -/
theorem operationsBegin : Obligations.OperationsBegin := by
  unfold Obligations.OperationsBegin
  refine fun s c => ⟨fun hcurrent hd => ?_, fun hcurrent hd hp => ?_, fun hcurrent hd => ?_⟩
  · have hexec : exec .format s = .next (formatEffect s c) := onCurrent_of_current hcurrent _
    rw [hexec, formatEffect, if_pos hd]
  · have hexec : exec .resume s = .next (resumeEffect s c) := onCurrent_of_current hcurrent _
    rw [hexec, resumeEffect, if_pos ⟨hd, Option.isSome_iff_ne_none.2 hp⟩]
  · have hexec : exec .restart s = .next (restartEffect s c) := onCurrent_of_current hcurrent _
    rw [hexec, restartEffect, if_pos hd]

/-! ### STATUS, RULE-WRITE and RULE-READ (R54, R55, R59, R146) -/

theorem statusPayload_eq (s : State) :
    statusPayload s =
      [s.device.code, if s.preserved.isSome then 1 else 0] ++ msFirst 6 s.now ++
        msFirst 2 (BitVec.ofNat 16 s.setup.capacity) ++ msFirst 2 (BitVec.ofNat 16 s.setup.tickPeriod) ++
        msFirst 2 (BitVec.ofNat 16 s.setup.sweepInterval) ++ msFirst 2 (BitVec.ofNat 16 s.setup.guard) ++
        [s.setup.unadmitted.code, s.setup.overflow.code] ++
        msFirst 6 s.ports.accepted ++ msFirst 6 s.ports.emitted ++ msFirst 6 s.ports.passed ++
        msFirst 6 s.ports.marked ++ msFirst 6 s.ports.unpoliced ++ msFirst 6 s.ports.header ++
        msFirst 6 s.ports.noRule ++ msFirst 6 s.ports.unadmitted ++ msFirst 6 s.ports.mismatch ++
        msFirst 6 s.ports.missOverflow ++ msFirst 6 s.ports.stateDiscards ++ msFirst 6 s.ports.excess ++
        msFirst 6 s.ports.fault ++ [BitVec.ofNat 8 s.cellsInside] ++
        msFirst 6 s.stats.hits ++ msFirst 6 s.stats.misses ++ msFirst 6 s.stats.dirtyWriteBacks ++
        msFirst 6 s.stats.correctedErrors ++ msFirst 6 s.stats.uncorrectableErrors ++
        [BitVec.ofNat 8 (pinnedCount s)] ++ msFirst 2 (BitVec.ofNat 16 s.owedCount) ++
        [BitVec.ofNat 8 s.notices.length] := by
  simp only [statusPayload, portBytes, storeBytes, flagByte_singleton, beBytes_one, beBytes_toNat, beBytes_eq_msFirst 2,
    List.flatMap_cons, List.flatMap_nil, List.append_assoc, List.cons_append, List.nil_append, List.append_nil]

theorem rulePayload_eq (n : Nat) (rule : Rule) :
    rulePayload n rule =
      [BitVec.ofNat 8 n, if rule.enable then 1 else 0] ++ msFirst 3 rule.matchLabel ++ msFirst 3 rule.maskLabel ++
        [BitVec.ofNat 8 rule.fieldPosition, BitVec.ofNat 8 rule.fieldWidth] ++
        msFirst 2 (BitVec.ofNat 16 rule.recordBase) ++ msFirst 2 (BitVec.ofNat 16 rule.rangeLength) := by
  simp only [rulePayload, flagByte_singleton, beBytes_one, beBytes_toNat, beBytes_eq_msFirst 2, List.append_assoc,
    List.cons_append, List.nil_append]

@[simp] theorem length_optBytes {w : Nat} (n : Nat) (x : Option (BitVec w)) : (optBytes n x).length = n :=
  length_beBytes n _

@[simp] theorem length_counterBytes (a b c d : RecordCounter) : (counterBytes a b c d).length = 16 := by
  simp [counterBytes]

theorem length_statusPayload (s : State) : (statusPayload s).length = 131 := by
  simp [statusPayload, portBytes, storeBytes]

theorem length_rulePayload (n : Nat) (r : Rule) : (rulePayload n r).length = 14 := by
  simp [rulePayload]

theorem length_summaryPayload (r : Record) : (summaryPayload r).length = 24 := by
  simp [summaryPayload]

theorem length_countsPayload (c : StateCounts) : (countsPayload c).length = 10 := by
  simp [countsPayload]

theorem length_queryItems (r : Record) : (queryItems r).length = 67 := by
  simp [queryItems]

theorem length_queryPayload (r : Record) (resident pinned isGuarded : Bool) :
    (queryPayload r resident pinned isGuarded).length = 73 := by
  have hitems : (if r.admitted then queryItems r else List.replicate 67 0#8).length = 67 := by
    split
    · exact length_queryItems r
    · exact List.length_replicate
  simp only [queryPayload, List.length_cons, List.length_append, List.length_nil, length_beBytes, hitems]

theorem length_retirePayload (a b c d : RecordCounter) (o : OwedSet) (g : BitVec 16) :
    (retirePayload (counterBytes a b c d) o g).length = 19 := by
  simp [retirePayload]

theorem ruleAllowed_eq_false (s : State) (r : Rule) :
    ruleAllowed s r = false ↔
      23 < r.fieldPosition ∨ 14 < r.fieldWidth ∨ 16383 < r.recordBase ∨ r.rangeLength = 0 ∨ 16384 < r.rangeLength ∨
        24 < r.fieldPosition + r.fieldWidth ∨ s.setup.capacity < r.recordBase + r.rangeLength := by
  simp only [ruleAllowed, Bool.and_eq_false_iff, decide_eq_false_iff_not, not_le, Nat.lt_one_iff, or_assoc]

section

variable {s : State} {c : Command} (hd : s.device = .config ∨ s.device = .running)

include hd

theorem statusEffect_reports : statusEffect s c = answered s c .ok (statusPayload s) := by
  obtain hd | hd := hd <;> simp [statusEffect, configOrRunning, hd, complete_eq_answered]

theorem ruleWriteEffect_number (hn : 16 ≤ paramRuleNumber c) : ruleWriteEffect s c = answered s c .badField [] := by
  have hbeyond : ¬paramRuleNumber c < 16 := Nat.not_lt.2 hn
  obtain hd | hd := hd <;> simp [ruleWriteEffect, configOrRunning, hd, hbeyond, answer_eq_answered]

theorem ruleWriteEffect_writes (hn : paramRuleNumber c < 16) :
    ruleWriteEffect s c =
      if ruleAllowed s (paramRule c) then
        answered { s with rules := s.rules.set (paramRuleNumber c) (paramRule c) hn } c .ok []
      else answered s c .badField [] := by
  obtain hd | hd := hd <;> simp [ruleWriteEffect, configOrRunning, hd, hn, answer_eq_answered]

theorem ruleReadEffect_number (hn : 16 ≤ paramRuleNumber c) : ruleReadEffect s c = answered s c .badField [] := by
  have hbeyond : ¬paramRuleNumber c < 16 := Nat.not_lt.2 hn
  obtain hd | hd := hd <;> simp [ruleReadEffect, configOrRunning, hd, hbeyond, answer_eq_answered]

theorem ruleReadEffect_reports (hn : paramRuleNumber c < 16) :
    ruleReadEffect s c = answered s c .ok (rulePayload (paramRuleNumber c) s.rules[paramRuleNumber c]) := by
  obtain hd | hd := hd <;> simp [ruleReadEffect, configOrRunning, hd, hn, complete_eq_answered]

end

/-- Settles O39: the reports byte by byte, the lengths of the payloads, and the three commands. -/
theorem statusAndRuleCommands : Obligations.StatusAndRuleCommands := by
  unfold Obligations.StatusAndRuleCommands
  refine ⟨⟨statusPayload_eq, rulePayload_eq⟩, ⟨length_statusPayload, length_rulePayload, length_summaryPayload,
    length_countsPayload, length_queryPayload, length_retirePayload⟩, fun s c hd => ⟨fun hcurrent => ?_,
    fun hcurrent => ?_, fun hcurrent => ?_⟩⟩
  · have hexec : exec .status s = .next (statusEffect s c) := onCurrent_of_current hcurrent _
    rw [hexec, statusEffect_reports hd]
  · have hexec : exec .ruleWrite s = .next (ruleWriteEffect s c) := onCurrent_of_current hcurrent _
    rintro number rule rfl hrule refused
    obtain rfl : paramRule c = rule := hrule
    rw [hexec]
    by_cases hn : 16 ≤ paramRuleNumber c
    · exact ⟨fun _ => congrArg _ (ruleWriteEffect_number hd hn), fun hnot => absurd (.inl hn) hnot⟩
    · have hrefused : refused ↔ ruleAllowed s (paramRule c) = false :=
        (or_iff_right hn).trans (ruleAllowed_eq_false s _).symm
      rw [ruleWriteEffect_writes hd (Nat.lt_of_not_le hn), hrefused]
      cases ruleAllowed s (paramRule c) with
      | false => exact ⟨fun _ => rfl, fun hnot => absurd rfl hnot⟩
      | true => exact ⟨fun hno => (by cases hno), fun _ => ⟨Nat.lt_of_not_le hn, rfl⟩⟩
  · have hexec : exec .ruleRead s = .next (ruleReadEffect s c) := onCurrent_of_current hcurrent _
    rw [hexec]
    refine ⟨fun hn => congrArg _ (ruleReadEffect_number hd hn), fun k hk => ?_⟩
    have hnumber : paramRuleNumber c = k.val := hk
    rw [ruleReadEffect_reports hd (hnumber ▸ k.isLt)]
    simp [hnumber]

end Sys2Proof.Proofs

/-! SUPPORT. Stages 1 to 3 of a command's checks (R137, R138): the commands refused with no claim. -/

namespace Sys2Proof.Proofs

open Sys2Proof Sys2Proof.Machine Sys2Proof.Safety Sys2Proof.Laws

/-! ### Stage 1: the device state (R137) -/

section

variable {s : State} (c : Command)

theorem setupEffect_wrongState (h : s.device ≠ .config) : setupEffect s c = answered s c .wrongState [] := by
  rw [setupEffect, if_neg h, answer_eq_answered]

theorem formatEffect_wrongState (h : s.device ≠ .config) : formatEffect s c = answered s c .wrongState [] := by
  rw [formatEffect, if_neg h, answer_eq_answered]

theorem resumeEffect_wrongState (h : ¬(s.device = .config ∧ s.preserved ≠ none)) :
    resumeEffect s c = answered s c .wrongState [] := by
  rw [resumeEffect, if_neg fun hr => h ⟨hr.1, Option.isSome_iff_ne_none.1 hr.2⟩, answer_eq_answered]

theorem restartEffect_wrongState (h : s.device ≠ .running) : restartEffect s c = answered s c .wrongState [] := by
  rw [restartEffect, if_neg h, answer_eq_answered]

theorem configOrRunning_eq_false (h : ¬(s.device = .config ∨ s.device = .running)) : configOrRunning s = false := by
  simpa [configOrRunning] using h

theorem statusEffect_wrongState (h : ¬(s.device = .config ∨ s.device = .running)) :
    statusEffect s c = answered s c .wrongState [] := by
  simp [statusEffect, configOrRunning_eq_false h, answer_eq_answered]

theorem ruleWriteEffect_wrongState (h : ¬(s.device = .config ∨ s.device = .running)) :
    ruleWriteEffect s c = answered s c .wrongState [] := by
  simp [ruleWriteEffect, configOrRunning_eq_false h, answer_eq_answered]

theorem ruleReadEffect_wrongState (h : ¬(s.device = .config ∨ s.device = .running)) :
    ruleReadEffect s c = answered s c .wrongState [] := by
  simp [ruleReadEffect, configOrRunning_eq_false h, answer_eq_answered]

theorem recordCommand_wrongState (h : s.device ≠ .running) (refusal : Option OutcomeCode) :
    recordCommand s c refusal = answered s c .wrongState [] := by
  simp only [recordCommand, if_neg h, answer_eq_answered]

/-- Stage 2 (R138). -/
theorem recordCommand_badRecord (h : s.device = .running) (hn : s.setup.capacity ≤ paramRecord c)
    (refusal : Option OutcomeCode) : recordCommand s c refusal = answered s c .badRecord [] := by
  simp only [recordCommand, if_pos h, if_neg (Nat.not_lt.2 hn), answer_eq_answered]

end

/-! ### Stage 3: a command's own checks -/

theorem code_of_recordCommand {s : State} {c : Command} {code : Byte} {n : Nat} (h : RecordCommand s c code n) :
    c.code = code := by
  obtain ⟨⟨-, -, hc⟩, -⟩ := h
  exact hc

theorem number_of_recordCommand {s : State} {c : Command} {code : Byte} {n : Nat} (h : RecordCommand s c code n) :
    paramRecord c = n := by
  obtain ⟨-, -, hn, -⟩ := h
  exact hn

/-- Each record command's event makes the checks of its code (R138). -/
theorem exec_recordEvent {s : State} {c : Command} {x : Instr × Byte} (hx : x ∈ recordCommands)
    (h : Current s c x.2) : exec x.1 s = .next (recordCommand s c (ownRefusal s c)) := by
  have hcode : c.code = x.2 := h.2.2
  have run {code : Byte} {refusal : Command → Option OutcomeCode} (hc : x.2 = code)
      (hr : refusal c = ownRefusal s c) :
      onCurrent s code (fun c => recordCommand s c (refusal c)) = .next (recordCommand s c (ownRefusal s c)) := by
    rw [onCurrent_of_current (hc ▸ h), hr]
  unfold ownRefusal at run ⊢
  rw [hcode] at run ⊢
  simp only [recordCommands, List.mem_cons, List.not_mem_nil, or_false] at hx
  obtain rfl | rfl | rfl | rfl | rfl | rfl | rfl | rfl := hx <;> exact run rfl rfl

theorem exec_refused {s : State} {c : Command} {n : Nat} {x : Instr × Byte} (hx : x ∈ recordCommands)
    (h : RecordCommand s c x.2 n) {o : OutcomeCode} (ho : ownRefusal s c = some o) :
    exec x.1 s = .next (answered s c o []) := by
  rw [exec_recordEvent hx h.1, ho, recordCommand_of_refused h]

theorem ownRefusal_guarded {s : State} {c : Command} (hc : c.code = codeHold ∨ c.code = codeRetire)
    (hn : paramRecord c < s.setup.guard) : ownRefusal s c = some .guarded := by
  have hguard : ownRefusal s c = guardRefusal s c := by
    obtain hc | hc := hc <;> rw [ownRefusal, hc] <;> rfl
  simp [hguard, guardRefusal, guarded, hn]

theorem ownRefusal_admit {s : State} {c : Command} (hc : c.code = codeAdmit) : ownRefusal s c = admitRefusal s c := by
  rw [ownRefusal, hc]
  rfl

theorem ownRefusal_amend {s : State} {c : Command} (hc : c.code = codeAmend) : ownRefusal s c = amendRefusal s c := by
  rw [ownRefusal, hc]
  rfl

/-- What each of the checks of ADMIT's fields refuses (R147). -/
theorem admitBadField_iff (isGuarded : Bool) (b : Block) :
    admitBadField isGuarded b = true ↔
      b.depth.toNat < 4096 ∨ 1 < b.peakAction.toNat ∨ 1 < b.sustainedAction.toNat ∨
        (b.presence.getLsbD 1 = true ∧ b.idleLimit = 0) ∨ (b.presence.getLsbD 3 = true ∧ b.alertThreshold = 0) ∨
        (isGuarded = true ∧ (b.presence.getLsbD 0 = true ∨ b.presence.getLsbD 2 = true)) := by
  simp only [admitBadField, Block.hasIdleLimit, Block.hasAlertThreshold, Block.hasExpiry, Block.admitAutoRetire,
    Bool.or_eq_true, Bool.and_eq_true, decide_eq_true_eq, beq_iff_eq, or_assoc, and_or_left]

/-- Which selection codes name no selection (R149); `select` counts the selections of R181 from 1. -/
theorem selections_bad (select : Nat → Byte) :
    (selectionOk (select 1) && selectionOk (select 2) && selectionOk (select 3) && selectionOk (select 4) &&
        selectionOk (select 5) && selectionOk (select 6) && optionalSelectionOk (select 7) &&
        optionalSelectionOk (select 8) && selectionOk (select 9) && optionalSelectionOk (select 10)) = false ↔
      (∃ k ∈ [1, 2, 3, 4, 5, 6, 9], 1 < (select k).toNat) ∨ ∃ k ∈ [7, 8, 10], 2 < (select k).toNat := by
  simp only [selectionOk, optionalSelectionOk, Bool.and_eq_false_iff, decide_eq_false_iff_not, not_le, List.mem_cons,
    List.not_mem_nil, or_false, exists_eq_or_imp, exists_eq_left, or_assoc]
  simp only [or_left_comm]

/-- What each of the checks of AMEND's fields refuses (R149). -/
theorem amendBadField_iff (isGuarded : Bool) (select : Nat → Byte) (b : Block) :
    amendBadField isGuarded
        ⟨select 1, select 2, select 3, select 4, select 5, select 6, select 7, select 8, select 9, select 10⟩ b = true ↔
      (select 2 = 1 ∧ b.depth.toNat < 4096) ∨ (select 5 = 1 ∧ 1 < b.peakAction.toNat) ∨
        (select 6 = 1 ∧ 1 < b.sustainedAction.toNat) ∨ (select 8 = 1 ∧ b.idleLimit = 0) ∨
        (select 10 = 1 ∧ b.alertThreshold = 0) ∨
        (∃ k ∈ [1, 2, 3, 4, 5, 6, 9], 1 < (select k).toNat) ∨ (∃ k ∈ [7, 8, 10], 2 < (select k).toNat) ∨
        (isGuarded = true ∧ (select 7 = 1 ∨ (select 9 = 1 ∧ b.presence.getLsbD 0 = true))) := by
  rw [← or_assoc (a := ∃ k ∈ [1, 2, 3, 4, 5, 6, 9], 1 < (select k).toNat), ← selections_bad]
  simp only [amendBadField, selects, Block.amendAutoRetire, Bool.or_eq_true, Bool.and_eq_true, Bool.not_eq_true',
    decide_eq_true_eq, beq_iff_eq, and_or_left, and_assoc, or_assoc]
  rfl

theorem amendSelections_eq {c : Command} {select : Nat → Byte} (h : ∀ k, select k = byteAt c.params (3 + k)) :
    amendSelections c =
      ⟨select 1, select 2, select 3, select 4, select 5, select 6, select 7, select 8, select 9, select 10⟩ := by
  simp only [amendSelections, h]

/-- Settles O40: the refusals by stage. -/
theorem refusalsWithoutClaim : Obligations.RefusalsWithoutClaim := by
  unfold Obligations.RefusalsWithoutClaim
  refine ⟨?_, fun s c x hx hcurrent hd hn => ?_, fun s c n => ⟨fun h hn => ?_, fun h hn => ?_, ?_, ?_⟩⟩
  · intro s c x hx hcurrent allowed hnot
    have run {code : Byte} {effect : Command → State} (hc : x.2 = code) (he : effect c = answered s c .wrongState []) :
        onCurrent s code effect = .next (answered s c .wrongState []) := by
      rw [onCurrent_of_current (hc ▸ hcurrent), he]
    unfold allCommands at hx
    rw [List.mem_append] at hx
    obtain hx | hx := hx
    · simp only [List.mem_cons, List.not_mem_nil, or_false] at hx
      obtain rfl | rfl | rfl | rfl | rfl | rfl | rfl := hx
      · exact run rfl (setupEffect_wrongState c fun hd => hnot (.inl ⟨hd, .inl rfl⟩))
      · exact run rfl (formatEffect_wrongState c fun hd => hnot (.inl ⟨hd, .inr (.inl rfl)⟩))
      · exact run rfl (resumeEffect_wrongState c fun hd => hnot (.inl ⟨hd.1, .inr (.inr ⟨rfl, hd.2⟩)⟩))
      · exact run rfl (restartEffect_wrongState c fun hd => hnot (.inr (.inl ⟨hd, .inl rfl⟩)))
      · exact run rfl (statusEffect_wrongState c fun hd => hnot (.inr (.inr ⟨hd, .inl rfl⟩)))
      · exact run rfl (ruleWriteEffect_wrongState c fun hd => hnot (.inr (.inr ⟨hd, .inr (.inl rfl)⟩)))
      · exact run rfl (ruleReadEffect_wrongState c fun hd => hnot (.inr (.inr ⟨hd, .inr (.inr rfl)⟩)))
    · rw [exec_recordEvent hx hcurrent,
        recordCommand_wrongState c fun hd => hnot (.inr (.inl ⟨hd, .inr hx⟩))]
  · rw [exec_recordEvent hx hcurrent, recordCommand_badRecord c hd hn]
  · exact exec_refused (x := (.hold, codeHold)) (by simp [recordCommands]) h
      (ownRefusal_guarded (.inl (code_of_recordCommand h)) (number_of_recordCommand h ▸ hn))
  · exact exec_refused (x := (.retire, codeRetire)) (by simp [recordCommands]) h
      (ownRefusal_guarded (.inr (code_of_recordCommand h)) (number_of_recordCommand h ▸ hn))
  · rintro h b rfl bad
    have hc := code_of_recordCommand h
    obtain rfl := number_of_recordCommand h
    have hbad : admitBadField (guarded s (paramRecord c)) (admitBlock c) = true ↔ bad := by
      rw [admitBadField_iff, guarded, decide_eq_true_eq]
      rfl
    refine ⟨fun hb => exec_refused (x := (.admitRecord, codeAdmit)) (by simp [recordCommands]) h ?_,
      fun hb hmap => exec_refused (x := (.admitRecord, codeAdmit)) (by simp [recordCommands]) h ?_⟩
    · rw [ownRefusal_admit hc, admitRefusal, if_pos (hbad.2 hb)]
    · rw [ownRefusal_admit hc, admitRefusal, if_neg fun hf => hb (hbad.1 hf),
        if_neg (show mapLabel s.rules (paramLabel c) ≠ some (paramRecord c) from hmap)]
  · rintro h b rfl select hselect hbad
    have hc := code_of_recordCommand h
    obtain rfl := number_of_recordCommand h
    refine exec_refused (x := (.amend, codeAmend)) (by simp [recordCommands]) h ?_
    rw [ownRefusal_amend hc, amendRefusal, amendSelections_eq hselect, if_pos]
    rw [amendBadField_iff, guarded, decide_eq_true_eq]
    exact hbad

end Sys2Proof.Proofs

/-! SUPPORT. The claims of the record commands on a resident record (R138 to R141, sections 9.3 to 9.8): what each
branch of a claim leaves, and the bytes of its response (R182). -/

namespace Sys2Proof.Proofs

open Sys2Proof Sys2Proof.Machine Sys2Proof.Safety Sys2Proof.Laws

/-! ### A claim taken at once -/

/-- What the claim of a command meets whose record step found its record resident (R139). -/
abbrev resident (n : Nat) (r : Record) (p : Bool) : Met := ⟨n, r, p, true, false⟩

/-- Only ADMIT and AMEND, HOLD and RETIRE have checks of their own (R138). -/
theorem passesOwnChecks_of_code {s : State} {c : Command}
    (hc : c.code ∈ [codeRelease, codeQuery, codePin, codeUnpin]) : PassesOwnChecks s c := by
  refine ⟨fun h => ?_, fun h => ?_, fun h => ?_⟩
  · exact absurd (h ▸ hc) (by decide)
  · exact absurd (h ▸ hc) (by decide)
  · obtain h | h := h <;> exact absurd (h ▸ hc) (by decide)

theorem passesOwnChecks_of_guard {s : State} {c : Command} (hc : c.code ∈ [codeHold, codeRetire])
    (hn : s.setup.guard ≤ paramRecord c) : PassesOwnChecks s c := by
  refine ⟨fun h => ?_, fun h => ?_, fun _ => ?_⟩
  · exact absurd (h ▸ hc) (by decide)
  · exact absurd (h ▸ hc) (by decide)
  · simp [guardRefusal, guarded, hn]

section

variable {s : State} {c : Command} {n : Nat} {x : Instr × Byte} {i : Fin 64} {r q : Record} {d f p p' : Bool}
  (hx : x ∈ recordCommands) (h : RecordCommand s c x.2 n) (hpass : PassesOwnChecks s c)
  (hres : ResidentIn s n i r d f p)

include hx h hpass hres

theorem exec_claim {k : Claimed} (hk : claimOf (countHit s) (resident n r p) c = k) :
    exec x.1 s = .next
      (answered
        { k.state with lines := k.state.lines.set i.val (.valid n k.copy (d || k.copy != r) true k.pinned) i.isLt }
        c k.outcome k.payload) := by
  rw [exec_recordCommand hx h hpass, recordStep_of_resident hres]
  exact congrArg _ (claimCommand_of_claim (countHit s) i (resident n r p) d c hk)

/-- The claim changes the record's state, and with it the Occupancy Map and the owed-record count. -/
theorem exec_claim_state {o : OutcomeCode} {payload : List Byte} {occupancy : List Nat} {owed : Nat}
    (hk : claimOf (countHit s) (resident n r p) c =
      ⟨{ countHit s with occupancy := occupancy, owedCount := owed }, q, p', o, payload⟩) (hq : q.state ≠ r.state) :
    exec x.1 s = .next
      (answered { claimed s i n q true p' with occupancy := occupancy, owedCount := owed } c o payload) := by
  have hne : q ≠ r := fun heq => hq (by rw [heq])
  have hdirty : (d || q != r) = true := by simp [hne]
  refine (exec_claim hx h hpass hres hk).trans ?_
  simp only [hdirty]
  rfl

/-- The claim changes nothing beside the record and the pinned flag. -/
theorem exec_claim_record {o : OutcomeCode} {payload : List Byte}
    (hk : claimOf (countHit s) (resident n r p) c = ⟨countHit s, q, p', o, payload⟩) :
    exec x.1 s = .next (answered (claimed s i n q (d || q != r) p') c o payload) :=
  exec_claim hx h hpass hres hk

/-- The claim leaves the record as it was. -/
theorem exec_claim_same {o : OutcomeCode} {payload : List Byte}
    (hk : claimOf (countHit s) (resident n r p) c = ⟨countHit s, r, p', o, payload⟩) :
    exec x.1 s = .next (answered (claimed s i n r d p') c o payload) := by
  rw [exec_claim_record hx h hpass hres hk, bne_self_eq_false, Bool.or_false]

end

/-! ### The claims by their codes -/

section

variable (s : State) (m : Met) {c : Command}

theorem claimOf_admit (h : c.code = codeAdmit) : claimOf s m c = claimAdmit s m c := by
  rw [claimOf, h]
  rfl

theorem claimOf_amend (h : c.code = codeAmend) : claimOf s m c = claimAmend s m c := by
  rw [claimOf, h]
  rfl

theorem claimOf_hold (h : c.code = codeHold) : claimOf s m c = claimHold s m c := by
  rw [claimOf, h]
  rfl

theorem claimOf_release (h : c.code = codeRelease) : claimOf s m c = claimRelease s m c := by
  rw [claimOf, h]
  rfl

theorem claimOf_retire (h : c.code = codeRetire) : claimOf s m c = claimRetire s m c := by
  rw [claimOf, h]
  rfl

theorem claimOf_query (h : c.code = codeQuery) : claimOf s m c = claimQuery s m c := by
  rw [claimOf, h]
  rfl

theorem claimOf_pin (h : c.code = codePin) : claimOf s m c = claimPin s m c := by
  rw [claimOf, h]
  rfl

theorem claimOf_unpin (h : c.code = codeUnpin) : claimOf s m c = claimUnpin s m c := by
  rw [claimOf, h]
  rfl

end

/-! ### Bytes of the responses -/

theorem optBytes_eq_msFirst (k : Nat) (x : Option (BitVec (8 * k))) : optBytes k x = msFirst k (x.getD 0) := by
  cases x with
  | none => simpa [optBytes] using beBytes_toNat k 0
  | some v => exact beBytes_toNat k v

theorem counterBytes_eq_msFirst (a b c d : RecordCounter) :
    counterBytes a b c d = msFirst 4 a ++ msFirst 4 b ++ msFirst 4 c ++ msFirst 4 d := by
  simp only [counterBytes, beBytes_toNat]

theorem summaryPayload_eq (q : Record) :
    summaryPayload q =
      [q.state.code.setWidth 8] ++ msFirst 2 q.generation ++ msFirst 4 q.budget ++ msFirst 4 q.depth ++
        msFirst 6 q.lastUpdate ++ [if q.expiry.isSome then 1 else 0] ++ msFirst 6 (q.expiry.getD 0) := by
  simp only [summaryPayload, stateByte, beBytes_toNat, optBytes_eq_msFirst, flagByte_singleton, List.append_assoc,
    List.cons_append, List.nil_append]

theorem retirePayload_eq (counters : List Byte) (dropped : OwedSet) (generation : BitVec 16) :
    retirePayload counters dropped generation =
      counters ++ [dropped.bits.setWidth 8] ++ msFirst 2 generation := by
  simp only [retirePayload, owedByte, beBytes_toNat]

/-! ### ADMIT (R148) -/

section

variable {s : State} {n : Nat} {r : Record} {p : Bool} {c : Command}

theorem claimAdmit_faulted (h : r.state = .faulted) :
    claimAdmit s (resident n r p) c = ⟨s, r, p, .faulted, []⟩ := by
  simp [claimAdmit, isFaulted, Met.unchanged, h]

theorem claimAdmit_notVacant (hf : r.state ≠ .faulted) (hv : r.state ≠ .vacant) :
    claimAdmit s (resident n r p) c = ⟨s, r, p, .notVacant, []⟩ := by
  simp [claimAdmit, isFaulted, Met.unchanged, hf, hv]

theorem claimAdmit_expired (hv : r.state = .vacant) (hp : (admitBlock c).hasExpiry = true)
    (ht : (admitBlock c).expiry.toNat ≤ s.now.toNat) :
    claimAdmit s (resident n r p) c = ⟨s, r, p, .badField, []⟩ := by
  simp [claimAdmit, isFaulted, Met.unchanged, hv, hp, ht]

theorem claimAdmit_admits (hv : r.state = .vacant)
    (ht : (admitBlock c).hasExpiry = true → s.now.toNat < (admitBlock c).expiry.toNat) :
    claimAdmit s (resident n r p) c =
      ⟨{ s with occupancy := occSet s.occupancy n }, admittedRecord r (paramLabel c) (admitBlock c) s.now, p, .ok,
        msFirst 2 r.generation⟩ := by
  have hlate : ((admitBlock c).hasExpiry && decide ((admitBlock c).expiry.toNat ≤ s.now.toNat)) = false := by
    simpa using ht
  simp [claimAdmit, isFaulted, hv, hlate, beBytes_toNat]

end

/-- Settles O42: the branches of ADMIT's claim. -/
theorem admitResult : Obligations.AdmitResult := by
  unfold Obligations.AdmitResult
  refine ⟨mem_occSet, ?_⟩
  rintro s c n i r d f p b h hpass hres rfl
  have hc : c.code = codeAdmit := code_of_recordCommand h
  have hx : (Instr.admitRecord, codeAdmit) ∈ recordCommands := by simp [recordCommands]
  have refused {o : OutcomeCode} (hk : claimAdmit (countHit s) (resident n r p) c = ⟨countHit s, r, p, o, []⟩) :
      exec .admitRecord s = .next (answered (claimed s i n r d p) c o []) :=
    exec_claim_same hx h hpass hres ((claimOf_admit _ _ hc).trans hk)
  refine ⟨fun hf => refused (claimAdmit_faulted hf), fun hs => refused ?_, fun hv => ⟨fun hp ht =>
    refused (claimAdmit_expired hv hp ht), fun ht => ?_⟩⟩
  · obtain hs | hs | hs := hs <;> exact claimAdmit_notVacant (by simp [hs]) (by simp [hs])
  · exact exec_claim_state hx h hpass hres ((claimOf_admit _ _ hc).trans (claimAdmit_admits hv ht))
      (by simp [hv])

/-! ### AMEND (R149, R150) -/

section

variable {s : State} {n : Nat} {r : Record} {p : Bool} {c : Command}

theorem claimAmend_faulted (h : r.state = .faulted) :
    claimAmend s (resident n r p) c = ⟨s, r, p, .faulted, []⟩ := by
  simp [claimAmend, isFaulted, Met.unchanged, h]

theorem claimAmend_stale (hf : r.state ≠ .faulted) (hg : paramGeneration c ≠ r.generation) :
    claimAmend s (resident n r p) c = ⟨s, r, p, .stale, []⟩ := by
  simp [claimAmend, isFaulted, Met.unchanged, hf, hg]

theorem claimAmend_vacant (hg : paramGeneration c = r.generation) (hv : r.state = .vacant) :
    claimAmend s (resident n r p) c = ⟨s, r, p, .isVacant, []⟩ := by
  simp [claimAmend, isFaulted, Met.unchanged, hg, hv]

theorem state_of_admitted (h : r.admitted = true) : r.state ≠ .vacant ∧ r.state ≠ .faulted := by
  obtain hs | hs | hs := (admitted_iff r).1 h <;> simp [hs]

theorem claimAmend_expired (hg : paramGeneration c = r.generation) (ha : r.admitted = true)
    (hx : (amendSelections c).expiry = 1) (ht : (amendBlock c).expiry.toNat ≤ s.now.toNat) :
    claimAmend s (resident n r p) c = ⟨s, r, p, .badField, []⟩ := by
  obtain ⟨hv, hf⟩ := state_of_admitted ha
  simp [claimAmend, isFaulted, Met.unchanged, hg, hv, hf, hx, ht]

theorem claimAmend_amends (hg : paramGeneration c = r.generation) (ha : r.admitted = true)
    (ht : ¬((amendSelections c).expiry = 1 ∧ (amendBlock c).expiry.toNat ≤ s.now.toNat)) :
    claimAmend s (resident n r p) c =
      ⟨s, amendedRecord r (amendSelections c) (amendBlock c) s.now, p, .ok,
        summaryPayload (amendedRecord r (amendSelections c) (amendBlock c) s.now)⟩ := by
  obtain ⟨hv, hf⟩ := state_of_admitted ha
  have hlate : ((amendSelections c).expiry == 1#8 && decide ((amendBlock c).expiry.toNat ≤ s.now.toNat)) = false := by
    simpa using ht
  simp [claimAmend, isFaulted, hg, hv, hf, hlate]

end

theorem amendField_eq {α : Type} (x : Byte) (new old : α) : amendField x new old = if x = 1 then new else old := by
  simp [amendField, selects]

/-- A new depth that the budget exceeds lowers the budget to it (R149). -/
theorem amendedRecord_budget (r : Record) (x : Selections) (b : Block) (now : Tick) :
    (amendedRecord r x b now).budget =
      if x.depth = 1 ∧ b.depth.toNat < (r.refresh now).budget.toNat then b.depth else (r.refresh now).budget := by
  by_cases hd : x.depth = 1#8 <;> simp [amendedRecord, selects, amendField_eq, hd]

/-- An EXPIRED record is made ACTIVE where its expiry was set or removed (R150). -/
theorem amendedRecord_state (r : Record) (x : Selections) (b : Block) (now : Tick) :
    (amendedRecord r x b now).state =
      if r.state = .expired ∧ (x.expiry = 1 ∨ x.expiry = 2) then .active else r.state := by
  simp [amendedRecord]

/-- Settles O43: the summary's bytes, the branches of AMEND's claim, and the amended record field by field. -/
theorem amendResult : Obligations.AmendResult := by
  unfold Obligations.AmendResult
  refine ⟨summaryPayload_eq, ?_⟩
  rintro s c n i r d f p b select h hpass hres rfl hselect
  have hc : c.code = codeAmend := code_of_recordCommand h
  have hx : (Instr.amend, codeAmend) ∈ recordCommands := by simp [recordCommands]
  have refused {o : OutcomeCode} (hk : claimAmend (countHit s) (resident n r p) c = ⟨countHit s, r, p, o, []⟩) :
      exec .amend s = .next (answered (claimed s i n r d p) c o []) :=
    exec_claim_same hx h hpass hres ((claimOf_amend _ _ hc).trans hk)
  obtain rfl : select = fun k => byteAt c.params (3 + k) := funext hselect
  refine ⟨fun hf => refused (claimAmend_faulted hf), fun hf hg => refused (claimAmend_stale hf hg), fun hg => ⟨fun hv =>
    refused (claimAmend_vacant hg hv), fun ha hsel ht => refused (claimAmend_expired hg ha hsel ht), fun ha ht => ?_⟩⟩
  refine ⟨amendedRecord r (amendSelections c) (amendBlock c) s.now,
    exec_claim_record hx h hpass hres ((claimOf_amend _ _ hc).trans (claimAmend_amends hg ha ht)),
    amendField_eq _ _ _, amendedRecord_budget _ _ _ _, amendedRecord_state _ _ _ _, rfl, rfl, rfl, rfl, rfl,
    amendField_eq _ _ _, amendField_eq _ _ _, amendField_eq _ _ _, amendField_eq _ _ _, amendField_eq _ _ _,
    amendField_eq _ _ _, rfl⟩

/-! ### HOLD and RELEASE (R151, R152) -/

section

variable {s : State} {n : Nat} {r : Record} {p : Bool} {c : Command}

theorem claimHold_faulted (h : r.state = .faulted) : claimHold s (resident n r p) c = ⟨s, r, p, .faulted, []⟩ := by
  simp [claimHold, isFaulted, Met.unchanged, h]

theorem claimHold_stale (hf : r.state ≠ .faulted) (hg : paramGeneration c ≠ r.generation) :
    claimHold s (resident n r p) c = ⟨s, r, p, .stale, []⟩ := by
  simp [claimHold, isFaulted, Met.unchanged, hf, hg]

theorem claimRelease_faulted (h : r.state = .faulted) :
    claimRelease s (resident n r p) c = ⟨s, r, p, .faulted, []⟩ := by
  simp [claimRelease, isFaulted, Met.unchanged, h]

theorem claimRelease_stale (hf : r.state ≠ .faulted) (hg : paramGeneration c ≠ r.generation) :
    claimRelease s (resident n r p) c = ⟨s, r, p, .stale, []⟩ := by
  simp [claimRelease, isFaulted, Met.unchanged, hf, hg]

/-- The outcome of a HOLD or RELEASE that leaves the record as it was, the generation agreeing: a refusal, or OK for a
record that is there already (R151, R152). -/
def holdOutcome : RecState → OutcomeCode
  | .vacant => .isVacant
  | .active => .ok
  | .held => .ok
  | .expired => .recordState
  | .faulted => .faulted

variable (hg : paramGeneration c = r.generation)

include hg

theorem claimHold_same (hs : r.state ≠ .active) {o : OutcomeCode} (ho : holdOutcome r.state = o) :
    claimHold s (resident n r p) c = ⟨s, r, p, o, []⟩ := by
  subst ho
  cases h : r.state <;> simp_all [claimHold, isFaulted, Met.unchanged, holdOutcome]

theorem claimHold_holds (hs : r.state = .active) :
    claimHold s (resident n r p) c = ⟨s, { r with state := .held }, p, .ok, []⟩ := by
  simp [claimHold, isFaulted, Met.withState, hg, hs]

theorem claimRelease_same (hs : r.state ≠ .held) {o : OutcomeCode} (ho : holdOutcome r.state = o) :
    claimRelease s (resident n r p) c = ⟨s, r, p, o, []⟩ := by
  subst ho
  cases h : r.state <;> simp_all [claimRelease, isFaulted, Met.unchanged, holdOutcome]

theorem claimRelease_releases (hs : r.state = .held) :
    claimRelease s (resident n r p) c = ⟨s, { r with state := .active }, p, .ok, []⟩ := by
  simp [claimRelease, isFaulted, Met.withState, hg, hs]

end

/-! ### PIN and UNPIN (R156, R157) -/

section

variable {s : State} {n : Nat} {r : Record} {p : Bool} {c : Command}

theorem claimPin_stale (hg : paramGeneration c ≠ r.generation) :
    claimPin s (resident n r p) c = ⟨s, r, p, .stale, []⟩ := by
  simp [claimPin, Met.unchanged, hg]

theorem claimUnpin_stale (hg : paramGeneration c ≠ r.generation) :
    claimUnpin s (resident n r p) c = ⟨s, r, p, .stale, []⟩ := by
  simp [claimUnpin, Met.unchanged, hg]

variable (hg : paramGeneration c = r.generation)

include hg

theorem claimPin_vacant (hv : r.state = .vacant) : claimPin s (resident n r p) c = ⟨s, r, p, .isVacant, []⟩ := by
  simp [claimPin, Met.unchanged, hg, hv]

theorem claimPin_pins (hv : r.state ≠ .vacant) (hroom : p = true ∨ pinnedCount s < 48) :
    claimPin s (resident n r p) c = ⟨s, r, true, .ok, []⟩ := by
  cases p with
  | true => simp [claimPin, Met.unchanged, hg, hv]
  | false =>
    have hlt : pinnedCount s < Config.pinLimit := by simpa using hroom
    simp [claimPin, hg, hv, hlt]

theorem claimPin_full (hv : r.state ≠ .vacant) (hp : p = false) (hfull : 48 ≤ pinnedCount s) :
    claimPin s (resident n r p) c = ⟨s, r, p, .pinLimit, []⟩ := by
  have hlimit : ¬pinnedCount s < Config.pinLimit := Nat.not_lt.2 hfull
  simp [claimPin, Met.unchanged, hg, hv, hp, hlimit]

theorem claimUnpin_vacant (hv : r.state = .vacant) : claimUnpin s (resident n r p) c = ⟨s, r, p, .isVacant, []⟩ := by
  simp [claimUnpin, Met.unchanged, hg, hv]

theorem claimUnpin_unpins (hv : r.state ≠ .vacant) :
    claimUnpin s (resident n r p) c = ⟨s, r, false, .ok, []⟩ := by
  simp [claimUnpin, hg, hv]

end

/-- Settles O44: the branches of the four claims. -/
theorem holdReleasePinUnpinResult : Obligations.HoldReleasePinUnpinResult := by
  unfold Obligations.HoldReleasePinUnpinResult
  refine ⟨fun s c n i r d f p x hcommand hres => ?_, fun s c n i r d f p x hcommand hres => ?_⟩
  · obtain ⟨rfl, h, hguard⟩ | ⟨rfl, h⟩ := hcommand
    · have hc : c.code = codeHold := code_of_recordCommand h
      have hx : (Instr.hold, codeHold) ∈ recordCommands := by simp [recordCommands]
      have hpass : PassesOwnChecks s c := passesOwnChecks_of_guard (by simp [hc]) (number_of_recordCommand h ▸ hguard)
      have same {o : OutcomeCode} (hk : claimHold (countHit s) (resident n r p) c = ⟨countHit s, r, p, o, []⟩) :
          exec .hold s = .next (answered (claimed s i n r d p) c o []) :=
        exec_claim_same hx h hpass hres ((claimOf_hold _ _ hc).trans hk)
      refine ⟨fun hf => same (claimHold_faulted hf), fun hf hg => same (claimHold_stale hf hg), fun hg =>
        ⟨fun hs => same ?_, fun hs => same ?_, fun _ hs => ?_, fun _ hs => same ?_, fun hne => (by cases hne),
          fun hne => (by cases hne)⟩⟩
      · exact claimHold_same hg (by simp [hs]) (by rw [hs]; rfl)
      · exact claimHold_same hg (by simp [hs]) (by rw [hs]; rfl)
      · exact exec_claim_state hx h hpass hres ((claimOf_hold _ _ hc).trans (claimHold_holds hg hs)) (by simp [hs])
      · exact claimHold_same hg (by simp [hs]) (by rw [hs]; rfl)
    · have hc : c.code = codeRelease := code_of_recordCommand h
      have hx : (Instr.release, codeRelease) ∈ recordCommands := by simp [recordCommands]
      have hpass : PassesOwnChecks s c := passesOwnChecks_of_code (by simp [hc])
      have same {o : OutcomeCode} (hk : claimRelease (countHit s) (resident n r p) c = ⟨countHit s, r, p, o, []⟩) :
          exec .release s = .next (answered (claimed s i n r d p) c o []) :=
        exec_claim_same hx h hpass hres ((claimOf_release _ _ hc).trans hk)
      refine ⟨fun hf => same (claimRelease_faulted hf), fun hf hg => same (claimRelease_stale hf hg), fun hg =>
        ⟨fun hs => same ?_, fun hs => same ?_, fun hne => (by cases hne), fun hne => (by cases hne), fun _ hs => ?_,
          fun _ hs => same ?_⟩⟩
      · exact claimRelease_same hg (by simp [hs]) (by rw [hs]; rfl)
      · exact claimRelease_same hg (by simp [hs]) (by rw [hs]; rfl)
      · exact exec_claim_state hx h hpass hres ((claimOf_release _ _ hc).trans (claimRelease_releases hg hs))
          (by simp [hs])
      · exact claimRelease_same hg (by simp [hs]) (by rw [hs]; rfl)
  · obtain ⟨rfl, h⟩ | ⟨rfl, h⟩ := hcommand
    · have hc : c.code = codePin := code_of_recordCommand h
      have hx : (Instr.pin, codePin) ∈ recordCommands := by simp [recordCommands]
      have hpass : PassesOwnChecks s c := passesOwnChecks_of_code (by simp [hc])
      have same {o : OutcomeCode} {p' : Bool}
          (hk : claimPin (countHit s) (resident n r p) c = ⟨countHit s, r, p', o, []⟩) :
          exec .pin s = .next (answered (claimed s i n r d p') c o []) :=
        exec_claim_same hx h hpass hres ((claimOf_pin _ _ hc).trans hk)
      exact ⟨fun hg => same (claimPin_stale hg), fun hg => ⟨fun hv => same (claimPin_vacant hg hv), fun hv =>
        ⟨fun _ hroom => same (claimPin_pins hg hv hroom), fun _ hp hfull => same (claimPin_full hg hv hp hfull),
          fun hne => (by cases hne)⟩⟩⟩
    · have hc : c.code = codeUnpin := code_of_recordCommand h
      have hx : (Instr.unpin, codeUnpin) ∈ recordCommands := by simp [recordCommands]
      have hpass : PassesOwnChecks s c := passesOwnChecks_of_code (by simp [hc])
      have same {o : OutcomeCode} {p' : Bool}
          (hk : claimUnpin (countHit s) (resident n r p) c = ⟨countHit s, r, p', o, []⟩) :
          exec .unpin s = .next (answered (claimed s i n r d p') c o []) :=
        exec_claim_same hx h hpass hres ((claimOf_unpin _ _ hc).trans hk)
      exact ⟨fun hg => same (claimUnpin_stale hg), fun hg => ⟨fun hv => same (claimUnpin_vacant hg hv), fun hv =>
        ⟨fun hne => (by cases hne), fun hne => (by cases hne), fun _ => same (claimUnpin_unpins hg hv)⟩⟩⟩

/-! ### RETIRE (R153, R154) -/

section

variable {s : State} {n : Nat} {r : Record} {p : Bool} {c : Command}

theorem claimRetire_faulted (hf : r.state = .faulted) :
    claimRetire s (resident n r p) c =
      ⟨endAdmission s n r, r.retiredFaulted, false, .ok, List.replicate 16 0 ++ [r.owed.bits.setWidth 8, 0, 0]⟩ := by
  have hpayload : retirePayload (counterBytes 0 0 0 0) r.owed 0 =
      List.replicate 16 0 ++ [r.owed.bits.setWidth 8, 0, 0] := by
    rw [retirePayload_eq, List.append_assoc]
    rfl
  rw [claimRetire, if_pos (by simp [hf]), hpayload]

theorem claimRetire_stale (hf : r.state ≠ .faulted) (hg : paramGeneration c ≠ r.generation) :
    claimRetire s (resident n r p) c = ⟨s, r, p, .stale, []⟩ := by
  simp [claimRetire, Met.unchanged, hf, hg]

theorem claimRetire_vacant (hg : paramGeneration c = r.generation) (hv : r.state = .vacant) :
    claimRetire s (resident n r p) c = ⟨s, r, p, .isVacant, []⟩ := by
  simp [claimRetire, Met.unchanged, hg, hv]

theorem claimRetire_retires (hg : paramGeneration c = r.generation) (ha : r.admitted = true) :
    claimRetire s (resident n r p) c =
      ⟨endAdmission s n r, r.retired, false, .ok,
        msFirst 4 r.passed ++ msFirst 4 r.marked ++ msFirst 4 r.excessDiscarded ++ msFirst 4 r.stateDiscarded ++
          [r.owed.bits.setWidth 8] ++ msFirst 2 (r.generation + 1)⟩ := by
  obtain ⟨hv, hf⟩ := state_of_admitted ha
  have hpayload := retirePayload_eq (counterBytes r.passed r.marked r.excessDiscarded r.stateDiscarded) r.owed
    (r.generation + 1)
  rw [counterBytes_eq_msFirst] at hpayload
  simp only [claimRetire, beq_false_of_ne hf, beq_false_of_ne hv, hg, bne_self_eq_false, Bool.false_eq_true, if_false,
    counterBytes_eq_msFirst, hpayload]

end

/-- Settles O45: the branches of RETIRE's claim. -/
theorem retireResult : Obligations.RetireResult := by
  unfold Obligations.RetireResult
  rintro s c n i r d f p h hguard hres
  have hc : c.code = codeRetire := code_of_recordCommand h
  have hx : (Instr.retire, codeRetire) ∈ recordCommands := by simp [recordCommands]
  have hpass : PassesOwnChecks s c := passesOwnChecks_of_guard (by simp [hc]) (number_of_recordCommand h ▸ hguard)
  have refused {o : OutcomeCode} (hk : claimRetire (countHit s) (resident n r p) c = ⟨countHit s, r, p, o, []⟩) :
      exec .retire s = .next (answered (claimed s i n r d p) c o []) :=
    exec_claim_same hx h hpass hres ((claimOf_retire _ _ hc).trans hk)
  refine ⟨fun hf => ?_, fun hf hg => refused (claimRetire_stale hf hg), fun hg =>
    ⟨fun hv => refused (claimRetire_vacant hg hv), fun ha => ?_⟩⟩
  · exact exec_claim_state hx h hpass hres ((claimOf_retire _ _ hc).trans (claimRetire_faulted hf))
      (by simp [hf])
  · exact exec_claim_state hx h hpass hres ((claimOf_retire _ _ hc).trans (claimRetire_retires hg ha))
      (state_of_admitted ha).1.symm

/-! ### QUERY (R155) -/

section

variable {s : State} {n : Nat} {r : Record} {p : Bool} {c : Command}

theorem claimQuery_unadmitted (ha : r.admitted = false) :
    claimQuery s (resident n r p) c =
      ⟨s, r, p, .ok, queryPayload r true p (decide (n < s.setup.guard))⟩ := by
  simp [claimQuery, ha, guarded]

theorem claimQuery_admitted (ha : r.admitted = true) :
    claimQuery s (resident n r p) c =
      ⟨s, if queryClears c then (r.refresh s.now).cleared else r.refresh s.now, p, .ok,
        queryPayload (r.refresh s.now) true p (decide (n < s.setup.guard))⟩ := by
  have hrefreshed : (r.refresh s.now).admitted = true := ha
  simp [claimQuery, ha, hrefreshed, guarded]

end

/-- The two action codes of a report share a byte (R182). -/
theorem actionByte_eq (a b : BitVec 2) :
    (0#2 ++ a ++ 0#2 ++ b : BitVec 8) = a.setWidth 8 <<< 4 ||| b.setWidth 8 := by
  revert a b
  decide

theorem queryItems_eq (r : Record) {presence : Byte}
    (h : presence = flagByte
      [r.expiry.isSome, r.idleLimit.isSome, r.autoRetire, r.alertThreshold.isSome, r.lastConform.isSome]) :
    queryItems r =
      msFirst 3 r.label ++ msFirst 2 r.sustainedRate ++ msFirst 4 r.depth ++ msFirst 2 r.peakInterval ++
        msFirst 2 r.peakTolerance ++ [r.peakAction.setWidth 8 <<< 4 ||| r.sustainedAction.setWidth 8, presence] ++
        msFirst 6 (r.expiry.getD 0) ++ msFirst 4 (r.idleLimit.getD 0) ++ msFirst 4 (r.alertThreshold.getD 0) ++
        msFirst 4 r.budget ++ msFirst 6 r.lastUpdate ++ msFirst 6 (r.lastConform.getD 0) ++ msFirst 6 r.lastSeen ++
        msFirst 4 r.passed ++ msFirst 4 r.marked ++ msFirst 4 r.excessDiscarded ++ msFirst 4 r.stateDiscarded := by
  subst h
  simp only [queryItems, beBytes_toNat, optBytes_eq_msFirst, counterBytes_eq_msFirst, actionByte_eq,
    List.append_assoc, List.cons_append, List.nil_append]

theorem queryPayload_admitted {r : Record} (ha : r.admitted = true) (resident pinned isGuarded : Bool) :
    queryPayload r resident pinned isGuarded =
      [r.state.code.setWidth 8] ++ msFirst 2 r.generation ++
        [flagByte [true, r.alertFired, r.idleReported, resident, pinned, isGuarded, false], 0,
          r.owed.bits.setWidth 8] ++ queryItems r := by
  obtain ⟨hv, hf⟩ := state_of_admitted ha
  simp [queryPayload, stateByte, owedByte, beBytes_toNat, ha, beq_false_of_ne hv, beq_false_of_ne hf]

theorem queryPayload_vacant {r : Record} (hv : r.state = .vacant) (resident pinned isGuarded : Bool) :
    queryPayload r resident pinned isGuarded =
      [0] ++ msFirst 2 r.generation ++
        [flagByte [true, false, false, resident, pinned, isGuarded, false], 0, 0] ++ List.replicate 67 0 := by
  have ha : r.admitted = false := by simp [Record.admitted, hv]
  simp only [queryPayload, stateByte, beBytes_toNat, ha, hv]
  rfl

theorem queryPayload_faulted {r : Record} (hf : r.state = .faulted) (resident pinned isGuarded : Bool) :
    queryPayload r resident pinned isGuarded =
      [4] ++ msFirst 2 r.generation ++
        [flagByte [r.generationKnown, false, false, resident, pinned, isGuarded, r.owedLost],
          r.faultSource.code.setWidth 8, r.owed.bits.setWidth 8] ++ List.replicate 67 0 := by
  have ha : r.admitted = false := by simp [Record.admitted, hf]
  simp only [queryPayload, stateByte, beBytes_toNat, ha, hf]
  rfl

/-- A flag byte's list goes on with 0 (log 36). -/
theorem flagByte_append_false (bits : List Bool) : flagByte (bits ++ [false]) = flagByte bits := by
  simp [flagByte]

/-- Settles O46: the report by the record's state, and the branches of QUERY's claim. -/
theorem queryResult : Obligations.QueryResult := by
  unfold Obligations.QueryResult
  refine ⟨fun r resident pinned isGuarded flags presence => ⟨fun ha hflags hpresence => ?_, fun hv hflags => ?_,
    fun hf hflags => ?_⟩, fun s c n i r d f p h hres => ?_⟩
  · rw [queryPayload_admitted ha, queryItems_eq r (eq_flagByte hpresence), eq_flagByte hflags,
      ← flagByte_append_false [true, r.alertFired, r.idleReported, resident, pinned, isGuarded]]
    simp only [List.append_assoc, List.cons_append, List.nil_append]
  · rw [queryPayload_vacant hv, eq_flagByte hflags,
      ← flagByte_append_false [true, false, false, resident, pinned, isGuarded]]
    rfl
  · rw [queryPayload_faulted hf, eq_flagByte hflags]
  · have hc : c.code = codeQuery := code_of_recordCommand h
    have hx : (Instr.query, codeQuery) ∈ recordCommands := by simp [recordCommands]
    have hpass : PassesOwnChecks s c := passesOwnChecks_of_code (by simp [hc])
    have hclaim := claimOf_query (countHit s) (resident n r p) hc
    refine ⟨fun ha => exec_claim_same hx h hpass hres (hclaim.trans (claimQuery_unadmitted ha)), fun ha => ?_⟩
    rw [claimQuery_admitted ha] at hclaim
    refine ⟨fun hkeep => ?_, ?_⟩
    · rw [queryClears, hkeep] at hclaim
      exact exec_claim_record hx h hpass hres hclaim
    · rintro hclear q rfl
      rw [queryClears, hclear] at hclaim
      exact exec_claim_record hx h hpass hres hclaim

end Sys2Proof.Proofs

/-! SUPPORT. The management link (sections 10.1 to 10.6): when a transaction is taken, the acceptance decision, the bytes
of the frames that the part drives, and each transaction by its effect. -/

namespace Sys2Proof.Proofs

open Sys2Proof Sys2Proof.Machine Sys2Proof.Safety Sys2Proof.Laws

/-! ### When a transaction is taken (R159) -/

theorem onLink_taken {s : State} (hpin : s.resetPin = false) (hlink : s.linkWaits = false) (t : State) :
    onLink s t = .next t := by
  simp [onLink, hpin, hlink]

theorem onLink_waiting {s : State} (hlink : s.linkWaits = true) (t : State) : onLink s t = .next s := by
  simp [onLink, hlink]

/-! ### The acceptance decision (R161) -/

/-- The length of a code's row, as no two rows of the table have the same code (R181). -/
theorem requiredLength_eq_some {code : Byte} {n : Nat} : requiredLength code = some n ↔ (code, n) ∈ codeTable := by
  constructor
  · intro h
    obtain ⟨before, after, htable, -⟩ := List.lookup_eq_some_iff.1 h
    rw [htable]
    simp
  · have htable : ∀ row ∈ codeTable, requiredLength row.1 = some row.2 := by decide
    exact htable (code, n)

theorem requiredLength_eq_none {code : Byte} : requiredLength code = none ↔ ¬∃ n, (code, n) ∈ codeTable := by
  simp only [← requiredLength_eq_some, Option.eq_none_iff_forall_ne_some, not_exists, ne_eq]

/-- A COMMAND's frame carries the CRC-16 over its length, tag, code and parameters (R160, R161). -/
abbrev GoodFrame (tag code : Byte) (params : List Byte) (check : BitVec 16) : Prop :=
  crc16 (BitVec.ofNat 8 params.length :: tag :: code :: params) = check

section

variable {s : State} {tag code : Byte} {params : List Byte} {check : BitVec 16}

theorem acceptance_of_bad_check (h : ¬GoodFrame tag code params check) :
    acceptance s tag code params check = .checkError :=
  if_pos h

variable (hgood : GoodFrame tag code params check)
include hgood

theorem acceptance_of_long (hlong : 60 < params.length) : acceptance s tag code params check = .lengthError := by
  rw [acceptance, if_neg (not_not.2 hgood), if_pos hlong]

theorem acceptance_of_unknown (hshort : params.length ≤ 60) (hcode : requiredLength code = none) :
    acceptance s tag code params check = .unknownCode := by
  rw [acceptance, if_neg (not_not.2 hgood), if_neg (Nat.not_lt.2 hshort), hcode]

theorem acceptance_of_known {n : Nat} (hshort : params.length ≤ 60) (hcode : requiredLength code = some n) :
    acceptance s tag code params check =
      if params.length ≠ n then .lengthError
      else if tag ∈ tagsInUse s then .tagInUse
      else if 8 ≤ outstanding s then .full else .accepted := by
  rw [acceptance, if_neg (not_not.2 hgood), if_neg (Nat.not_lt.2 hshort), hcode]
  simp only [List.contains_iff_mem]

/-- A length that no command has, or another than the code's own. -/
theorem acceptance_of_unfit (hfits : ¬(params.length ≤ 60 ∧ ∀ n, (code, n) ∈ codeTable → params.length = n)) :
    acceptance s tag code params check = .lengthError := by
  by_cases hshort : params.length ≤ 60
  · have hother : ∃ n, (code, n) ∈ codeTable ∧ params.length ≠ n := by
      by_contra hnone
      exact hfits ⟨hshort, fun n hn => by_contra fun hne => hnone ⟨n, hn, hne⟩⟩
    obtain ⟨n, hn, hne⟩ := hother
    rw [acceptance_of_known hgood hshort (requiredLength_eq_some.2 hn), if_pos hne]
  · exact acceptance_of_long hgood (Nat.lt_of_not_le hshort)

/-- What is left for the tags in use and the outstanding count to decide. -/
theorem acceptance_of_fit (hfits : params.length ≤ 60 ∧ ∀ n, (code, n) ∈ codeTable → params.length = n)
    (hknown : ∃ n, (code, n) ∈ codeTable) :
    acceptance s tag code params check =
      if tag ∈ tagsInUse s then .tagInUse else if 8 ≤ outstanding s then .full else .accepted := by
  obtain ⟨n, hn⟩ := hknown
  obtain ⟨hshort, hlength⟩ := hfits
  rw [acceptance_of_known hgood hshort (requiredLength_eq_some.2 hn), if_neg (not_not.2 (hlength n hn))]

end

/-! ### COMMAND (R160, R161, R163) -/

/-- What the part drives behind a COMMAND's second check byte (R159, R160). -/
def behindCommand (a : Acceptance) (more : Nat) : List Byte :=
  (acceptanceCode (some a) :: List.replicate (more - 1) 0).take more

/-- The acceptance decision is made: the code is recorded and driven (R160, R161). -/
def decided (s : State) (length : Nat) (a : Acceptance) (more : Nat) : State :=
  linkEnded
    { s with
      lastAcceptance := some a
      linkOut := List.replicate (length + 6) 0 ++ behindCommand a more }

theorem exec_command {s : State} (hpin : s.resetPin = false) (hlink : s.linkWaits = false) {tag code : Byte}
    {params : List Byte} (hlength : params.length ≤ 255) {check : BitVec 16} {a : Acceptance}
    (ha : acceptance s tag code params check = a) (more : Nat) :
    exec (.command tag code params check more) s = .next
      (if a = .accepted then acceptCommand (decided s params.length a more) ⟨tag, code, params⟩
      else decided s params.length a more) := by
  subst ha
  show onLink s (if 255 < params.length then s else _) = _
  rw [onLink_taken hpin hlink, if_neg (Nat.not_lt.2 hlength)]
  rfl

theorem length_behindCommand (a : Acceptance) (more : Nat) : (behindCommand a more).length = more := by
  rw [behindCommand, List.length_take, List.length_cons, List.length_replicate]
  omega

/-- The bytes behind a COMMAND, one by one. -/
theorem eq_behindCommand {behind : List Byte} {a : Acceptance} {more : Nat} (hlength : behind.length = more)
    (h : ∀ k, k < more → behind.getD k 0xFF = if k = 0 then acceptanceCode (some a) else 0) :
    behind = behindCommand a more := by
  refine List.ext_getElem (hlength.trans (length_behindCommand a more).symm) fun k hk hk' => ?_
  have hbyte := h k (hlength ▸ hk)
  rw [List.getD_eq_getElem _ _ hk] at hbyte
  rw [hbyte]
  cases k <;> simp [behindCommand]

/-- Behind a current command it joins the queue's tail (R163). -/
theorem acceptCommand_of_busy {s : State} (h : s.engine ≠ .idle) (c : Command) :
    acceptCommand s c = { s with cmdQueue := s.cmdQueue ++ [c] } := by
  unfold acceptCommand takeNext
  split
  · rename_i hidle _
    exact absurd hidle h
  · rfl

/-- It becomes current at once where none waits before it (R136). -/
theorem acceptCommand_of_idle {s : State} (h : s.engine = .idle) (hqueue : s.cmdQueue = []) (c : Command) :
    acceptCommand s c = { s with engine := .checking c } := by
  simp [acceptCommand, takeNext, h, hqueue]

/-- Settles O33: the five checks in their order; a refused frame leaves what `decided` says, and no command. -/
theorem acceptanceChecks : Obligations.AcceptanceChecks := by
  unfold Obligations.AcceptanceChecks
  intro s tag code params check good known fits
  refine ⟨acceptance_of_bad_check, fun hgood hfits => acceptance_of_unfit hgood hfits, fun hgood hfits hunknown => ?_,
    fun hgood hfits hknown htag => ?_, fun hgood hfits hknown htag hfull => ?_, fun hgood hfits hknown htag hroom => ?_,
    fun hrefused hpin hlink hlength more =>
      ⟨List.replicate (params.length + 6) 0 ++ behindCommand (acceptance s tag code params check) more, ?_⟩⟩
  · exact acceptance_of_unknown hgood hfits.1 (requiredLength_eq_none.2 hunknown)
  · rw [acceptance_of_fit hgood hfits hknown, if_pos htag]
  · rw [acceptance_of_fit hgood hfits hknown, if_neg htag, if_pos hfull]
  · rw [acceptance_of_fit hgood hfits hknown, if_neg htag, if_neg (Nat.not_le.2 hroom)]
  · rw [exec_command hpin hlink hlength rfl, if_neg hrefused]
    rfl

/-! ### The frames that the part drives (R164 to R166, R179, R182) -/

theorem withCheck_eq (frame : List Byte) :
    withCheck frame = frame ++ [(crc16 frame).extractLsb' 8 8, (crc16 frame).extractLsb' 0 8] := by
  rw [withCheck, checkBytes, beBytes_toNat 2]
  rfl

/-- A notice's fields in their bytes, most significant first. -/
theorem noticeFrame_eq (x : Notice) :
    noticeFrame x =
      withCheck
        (x.body.code :: BitVec.ofNat 8 (x.number / 256) :: BitVec.ofNat 8 x.number ::
          [x.generation.extractLsb' 8 8, x.generation.extractLsb' 0 8, x.tick.extractLsb' 40 8,
            x.tick.extractLsb' 32 8, x.tick.extractLsb' 24 8, x.tick.extractLsb' 16 8, x.tick.extractLsb' 8 8,
            x.tick.extractLsb' 0 8, x.body.detail.extractLsb' 24 8, x.body.detail.extractLsb' 16 8,
            x.body.detail.extractLsb' 8 8, x.body.detail.extractLsb' 0 8]) := by
  rw [noticeFrame, beBytes_two, beBytes_toNat 2, beBytes_toNat 6, beBytes_toNat 4]
  rfl

theorem statusBytes_eq (s : State) :
    statusBytes s =
      0 :: withCheck
        [s.device.code, BitVec.ofNat 8 (outstanding s), BitVec.ofNat 8 s.responses.length,
          BitVec.ofNat 8 s.notices.length, if s.owedCount = 0 then 0 else 1, acceptanceCode s.lastAcceptance] := by
  rw [statusBytes, statusFrame, flagByte_singleton]
  simp only [decide_eq_true_eq, ne_eq, ite_not]
  rfl

theorem readBytes_of_pos {count : Nat} (h : 1 ≤ count) (frame : List Byte) :
    readBytes count frame = 0 :: BitVec.ofNat 8 count :: frame := by
  rw [readBytes, if_neg (Nat.one_le_iff_ne_zero.1 h)]
  rfl

theorem responseBytes_of_pos {s : State} {x : Response} {rest : List Response} {count : Nat}
    (hhead : s.responses = x :: rest) (h : 1 ≤ count) :
    responseBytes s count = 0 :: BitVec.ofNat 8 count :: responseFrame x := by
  rw [responseBytes, readBytes_of_pos h, hhead]
  rfl

theorem noticeBytes_of_pos {s : State} {x : Notice} {rest : List Notice} {count : Nat}
    (hhead : s.notices = x :: rest) (h : 1 ≤ count) :
    noticeBytes s count = 0 :: BitVec.ofNat 8 count :: noticeFrame x := by
  rw [noticeBytes, readBytes_of_pos h, hhead]
  rfl

/-! ### RESPONSE_READ and NOTICE_READ (R121, R164, R165) -/

theorem countTaken_eq_none {atEnd length entered : Nat} (h : length < atEnd + entered) :
    countTaken atEnd length entered = none :=
  if_neg (Nat.not_le.2 h)

theorem countTaken_eq_some {atEnd length entered count : Nat} (h : count + entered = length) (hmin : atEnd ≤ count) :
    countTaken atEnd length entered = some count := by
  rw [countTaken, if_pos (by omega), ← h, Nat.add_sub_cancel]

section

variable {s : State} {entered : Nat} (more : Nat)

theorem readResponse_of_none (h : countTaken s.responsesAtEnd s.responses.length entered = none) :
    readResponse s entered more = s := by
  rw [readResponse, h]

theorem readNotice_of_none (h : countTaken s.noticesAtEnd s.notices.length entered = none) :
    readNotice s entered more = s := by
  rw [readNotice, h]

theorem readResponse_of_zero (h : countTaken s.responsesAtEnd s.responses.length entered = some 0) :
    readResponse s entered more = linkEnded { s with linkOut := [0, 0] ++ List.replicate more 0 } := by
  rw [readResponse, h]
  rfl

theorem readNotice_of_zero (h : countTaken s.noticesAtEnd s.notices.length entered = some 0) :
    readNotice s entered more = linkEnded { s with linkOut := [0, 0] ++ List.replicate more 0 } := by
  rw [readNotice, h]
  rfl

theorem readResponse_of_pos {count : Nat} {x : Response} {rest : List Response} (hhead : s.responses = x :: rest)
    (hpos : 1 ≤ count) (h : countTaken s.responsesAtEnd s.responses.length entered = some count) :
    readResponse s entered more =
      linkEnded
        { s with
          responses := rest
          linkOut := (0 :: BitVec.ofNat 8 count :: responseFrame x) ++ List.replicate more 0 } := by
  rw [readResponse, h]
  dsimp only
  rw [if_neg (Nat.one_le_iff_ne_zero.1 hpos), responseBytes_of_pos hhead hpos, hhead]
  rfl

theorem readNotice_of_pos {count : Nat} {x : Notice} {rest : List Notice} (hhead : s.notices = x :: rest)
    (hpos : 1 ≤ count) (h : countTaken s.noticesAtEnd s.notices.length entered = some count) :
    readNotice s entered more =
      linkEnded
        { s with
          notices := rest
          linkOut := (0 :: BitVec.ofNat 8 count :: noticeFrame x) ++ List.replicate more 0 } := by
  rw [readNotice, h]
  dsimp only
  rw [if_neg (Nat.one_le_iff_ne_zero.1 hpos), noticeBytes_of_pos hhead hpos, hhead]
  rfl

end

theorem exec_responseRead {s : State} (hpin : s.resetPin = false) (hlink : s.linkWaits = false) (entered more : Nat) :
    exec (.responseRead entered more) s = .next (readResponse s entered more) :=
  onLink_taken hpin hlink _

theorem exec_noticeRead {s : State} (hpin : s.resetPin = false) (hlink : s.linkWaits = false) (entered more : Nat) :
    exec (.noticeRead entered more) s = .next (readNotice s entered more) :=
  onLink_taken hpin hlink _

theorem attention_iff (s : State) : attention s = true ↔ s.responses ≠ [] ∨ s.notices ≠ [] := by
  simp [attention]

/-- Settles O34: each read by the count taken at the kind byte's end: none, 0, or the head's frame with it. -/
theorem readsRemoveTheHead : Obligations.ReadsRemoveTheHead := by
  unfold Obligations.ReadsRemoveTheHead
  refine ⟨attention_iff, fun s entered more hpin hlink => ?_⟩
  simp only [exec_responseRead hpin hlink, exec_noticeRead hpin hlink]
  refine ⟨fun h => ?_, fun h => ?_, fun hend h => ?_, fun hend h => ?_, ?_, ?_⟩
  · rw [readResponse_of_none more (countTaken_eq_none h)]
  · rw [readNotice_of_none more (countTaken_eq_none h)]
  · rw [readResponse_of_zero more (countTaken_eq_some (by omega) (Nat.le_of_eq hend))]
    rfl
  · rw [readNotice_of_zero more (countTaken_eq_some (by omega) (Nat.le_of_eq hend))]
    rfl
  · rintro x rest count hhead hpos hcount hmin frame rfl
    rw [readResponse_of_pos more hhead hpos (countTaken_eq_some hcount hmin), responseFrame, withCheck_eq]
    rfl
  · rintro x rest count hhead hpos hcount hmin frame rfl
    rw [readNotice_of_pos more hhead hpos (countTaken_eq_some hcount hmin), noticeFrame_eq, withCheck_eq]
    rfl

/-! ### LINK_STATUS, VOID_TRANSACTION and TRANSACTION_ABANDON (R159, R166) -/

theorem exec_linkStatus {s : State} (hpin : s.resetPin = false) (hlink : s.linkWaits = false) (more : Nat) :
    exec (.linkStatus more) s = .next (linkEnded { s with linkOut := statusBytes s ++ List.replicate more 0 }) :=
  onLink_taken hpin hlink _

/-- A byte that is no kind's code names no kind (R181). -/
theorem ofCode_eq_none {b : Byte} (h : b ∉ [0xA1#8, 0xA2#8, 0xA3#8, 0xA4#8]) : LinkKind.ofCode b = none := by
  rw [LinkKind.ofCode, List.find?_eq_none]
  intro k _ hk
  rw [← beq_iff_eq.1 hk] at h
  cases k <;> exact h (by decide)

theorem exec_voidTransaction {s : State} (hpin : s.resetPin = false) (hlink : s.linkWaits = false) {b : Byte}
    (hb : LinkKind.ofCode b = none) (more : Nat) :
    exec (.voidTransaction b more) s = .next (linkEnded { s with linkOut := List.replicate (more + 1) 0 }) := by
  show onLink s (if (LinkKind.ofCode b).isSome then s else _) = _
  rw [onLink_taken hpin hlink, hb]
  rfl

/-- The abandoned transaction ends the wait for the rise (log 17). -/
theorem exec_transactionAbandon_waiting {s : State} (hpin : s.resetPin = false) (hlink : s.linkWaits = true)
    (what : Abandoned) : exec (.transactionAbandon what) s = .next (linkEnded { s with linkWaits := false }) := by
  simp [exec, execTransactionAbandon, hpin, hlink]

section

variable {s : State} (hpin : s.resetPin = false) (hlink : s.linkWaits = false) {what : Abandoned}
include hpin hlink

theorem exec_transactionAbandon_none (h : abandonedBytes s what = none) :
    exec (.transactionAbandon what) s = .next s := by
  simp [exec, execTransactionAbandon, hpin, hlink, h]

theorem exec_transactionAbandon_some {bytes : List Byte} (h : abandonedBytes s what = some bytes) :
    exec (.transactionAbandon what) s = .next (linkEnded { s with linkOut := bytes }) := by
  simp [exec, execTransactionAbandon, hpin, hlink, h]

end

/-- Before a COMMAND's end the part drives 00h alone (R160). -/
theorem abandonedBytes_command {k : Nat} (hpos : 1 ≤ k) (hmax : k ≤ 260) (s : State) :
    abandonedBytes s (.command k) = some (List.replicate k 0) := by
  rw [abandonedBytes, cutBytes, List.length_replicate, if_pos (by omega), List.take_replicate,
    Nat.min_eq_left (by omega)]
  rfl

/-- Settles O35: the link that waits takes none; COMMAND by its acceptance code and what the engine does; LINK_STATUS, a
void and an abandoned transaction by the bytes driven. -/
theorem transactionResults : Obligations.TransactionResults := by
  unfold Obligations.TransactionResults
  intro s hpin
  refine ⟨fun hlink => ?_, ?_⟩
  · have refused (t : State) : onLink s t = .next s := onLink_waiting hlink t
    exact ⟨fun _ _ _ _ _ => refused _, fun _ _ => ⟨refused _, refused _⟩, fun _ => refused _, fun _ _ => refused _,
      exec_transactionAbandon_waiting hpin hlink⟩
  rintro hlink t rfl
  refine ⟨?_, ?_, fun b k hb => exec_voidTransaction hpin hlink (ofCode_eq_none hb) k, fun k hpos hmax => ?_, ?_,
    fun what => ?_⟩
  · rintro tag code params check more hlength a ha behind u hbehind hbytes rfl
    rw [exec_command hpin hlink hlength ha, eq_behindCommand hbehind hbytes]
    refine ⟨fun hrefused => ?_, fun haccepted => ⟨fun hbusy => ?_, fun hidle hqueue => ?_⟩⟩
    · rw [if_neg hrefused]
      rfl
    · rw [if_pos haccepted, acceptCommand_of_busy (s := decided s params.length a more) hbusy]
      rfl
    · rw [if_pos haccepted, acceptCommand_of_idle (s := decided s params.length a more) hidle hqueue]
      rfl
  · rintro status rfl more
    rw [exec_linkStatus hpin hlink, statusBytes_eq, withCheck_eq]
    rfl
  · exact exec_transactionAbandon_some hpin hlink (abandonedBytes_command hpos hmax s)
  · exact exec_transactionAbandon_some hpin hlink rfl
  · cases h : abandonedBytes s what with
    | none => exact .inl (exec_transactionAbandon_none hpin hlink h)
    | some bytes => exact .inr ⟨bytes, exec_transactionAbandon_some hpin hlink h⟩

end Sys2Proof.Proofs

/-! SUPPORT. The changes of device state (R170): the rows of the table, each with its event, and every event by its
row or by the device state that it leaves as it was. -/

namespace Sys2Proof.Proofs

open Sys2Proof Sys2Proof.Machine Sys2Proof.Safety Sys2Proof.Laws

/-! ### The rows of R170 -/

/-- The rows of the table of R170 that start at state `s`: the event, and the device state that it leads to. -/
inductive DeviceRow (s : State) : Instr → DeviceState → Prop
  | reset {c : Instr} (event : isResetEvent c = true) : DeviceRow s c .config
  | formatBegins (device : s.device = .config) : DeviceRow s .format .formatting
  | formatEnds (device : s.device = .formatting) : DeviceRow s .formatWriteComplete .running
  | resumeBegins (device : s.device = .config) (preserved : s.preserved ≠ none) : DeviceRow s .resume .resuming
  | resumeEndsAtRead (damage : Damage) (device : s.device = .resuming) :
      DeviceRow s (.resumeReadComplete damage) .running
  | resumeEndsAtWrite (device : s.device = .resuming) : DeviceRow s .resumeWriteComplete .running
  | restartBegins (device : s.device = .running) : DeviceRow s .restart .restarting
  | restartEnds (device : s.device = .restarting) : DeviceRow s .restartComplete .config

/-- The device state of `t` is that of `s`, or the one to which a row of the event leads. -/
def FollowsTable (c : Instr) (s t : State) : Prop := t.device = s.device ∨ DeviceRow s c t.device

/-! ### The device state by the operation in progress (R170) -/

section

variable {s : State} (h : OperationAgrees s)

include h

/-- The agreement says nothing of the cells: with none waiting it is the whole of `Coherent`. -/
theorem coherent_without_cells : Coherent { s with transfer := none, ingress := [], stage := none, missTable := [] } :=
  ⟨h, fun _ => ⟨rfl, rfl, rfl, rfl⟩⟩

theorem formatting_of_format {next : Nat} (hp : s.pass = .format next) : s.device = .formatting := by
  obtain ⟨-, -, hnone, -⟩ | ⟨hd, -⟩ | ⟨-, -, hresume, -⟩ | ⟨-, -, hnone, -⟩ :=
    coherent_cases (coherent_without_cells h)
  · cases hp.symm.trans hnone
  · exact hd
  · cases hp ▸ hresume
  · cases hp.symm.trans hnone

theorem resuming_of_resume {next : Nat} {counts : StateCounts} {writes : List (Nat × Record)}
    (hp : s.pass = .resume next counts writes) : s.device = .resuming := by
  obtain ⟨-, -, hnone, -⟩ | ⟨-, -, hformat, -⟩ | ⟨hd, -⟩ | ⟨-, -, hnone, -⟩ :=
    coherent_cases (coherent_without_cells h)
  · cases hp.symm.trans hnone
  · cases hp ▸ hformat
  · exact hd
  · cases hp.symm.trans hnone

theorem restarting_of_emptied {requested : Nat} (hr : s.restart = .emptied requested) : s.device = .restarting :=
  (restarting_of_restart (coherent_without_cells h) fun hidle => by cases hr.symm.trans hidle).1

end

/-! ### What ends a device-wide operation (R98, R100, R178) -/

theorem formatWritten_device (s : State) (n : Nat) :
    (formatWritten s n).device = s.device ∨ (formatWritten s n).device = .running := by
  unfold formatWritten endFormat
  dsimp only
  split
  · exact .inr (completeOperation_quiet _ _).device
  · exact .inl rfl

theorem finishResume_device (s : State) :
    (finishResume s).device = s.device ∨
      (∃ next counts, s.pass = .resume next counts []) ∧ (finishResume s).device = .running := by
  unfold finishResume
  split
  · rename_i hp
    split
    · exact .inr ⟨⟨_, _, hp⟩, (completeOperation_quiet _ _).device⟩
    · exact .inl rfl
  · exact .inl rfl

theorem resumeJudged_device (s : State) (n next : Nat) (counts : StateCounts) (writes : List (Nat × Record))
    (damage : Damage) :
    (resumeJudged s n next counts writes damage).device = s.device ∨
      (resumeJudged s n next counts writes damage).device = .running := by
  have hread := (readImage_kept s n .resume false damage).trans
    (offerFaulted_kept _ n (readImage s n .resume false damage).2)
  unfold resumeJudged
  obtain hsame | ⟨-, hrunning⟩ := finishResume_device _
  · exact .inl (hsame.trans hread.device)
  · exact .inr hrunning

theorem restartWritten_device (s : State) (i : Fin 64) (n : Nat) (copy : Record) (f p : Bool) (requested : Nat) :
    (restartWritten s i n copy f p requested).device = s.device := by
  obtain hkept | ⟨hkept, -⟩ := restartWritten_kept s i n copy f p requested <;> exact hkept.device

theorem requestWriteBacks_device (s : State) : (requestWriteBacks s).device = s.device := by
  unfold requestWriteBacks
  split <;> rfl

theorem endRestart_device (s : State) (requested : Nat) : (endRestart s requested).device = .config :=
  (completeOperation_quiet _ _).device

/-! ### The events with a row -/

theorem execWriteBackComplete_device {s t : State} (h : execWriteBackComplete s = .next t) : t.device = s.device := by
  unfold execWriteBackComplete at h
  split at h
  · split at h
    · exact completing_elim (P := fun u => u.device = s.device) h rfl (evictionWritten_operation _ _ _ _ _).device
    · exact completing_elim (P := fun u => u.device = s.device) h rfl (restartWritten_device _ _ _ _ _ _ _)
    · cases h
      rfl
  · cases h
    rfl

section

variable {s t : State} (ha : OperationAgrees s)

include ha

theorem formatWriteComplete_followsTable (h : execFormatWriteComplete s = .next t) :
    FollowsTable .formatWriteComplete s t := by
  unfold execFormatWriteComplete at h
  split at h
  · rename_i n rest _ _ hp
    refine completing_elim h (.inl rfl) ?_
    obtain hsame | hrunning := formatWritten_device { s with inFlight := rest } n
    · exact .inl hsame
    · refine .inr ?_
      rw [hrunning]
      exact .formatEnds (formatting_of_format ha hp)
  · cases h
    exact .inl rfl

theorem resumeReadComplete_followsTable {damage : Damage} (h : execResumeReadComplete damage s = .next t) :
    FollowsTable (.resumeReadComplete damage) s t := by
  unfold execResumeReadComplete at h
  split at h
  · rename_i n rest next counts writes _ hp
    refine completing_elim h (.inl rfl) ?_
    obtain hsame | hrunning := resumeJudged_device { s with inFlight := rest } n next counts writes damage
    · exact .inl hsame
    · refine .inr ?_
      rw [hrunning]
      exact .resumeEndsAtRead damage (resuming_of_resume ha hp)
  · cases h
    exact .inl rfl

theorem resumeWriteComplete_followsTable (h : execResumeWriteComplete s = .next t) :
    FollowsTable .resumeWriteComplete s t := by
  unfold execResumeWriteComplete at h
  split at h
  · rename_i n copy rest _
    refine completing_elim h (.inl rfl) ?_
    obtain hsame | ⟨⟨_, _, hp⟩, hrunning⟩ := finishResume_device (writeImage { s with inFlight := rest } n copy)
    · exact .inl hsame
    · refine .inr ?_
      rw [hrunning]
      exact .resumeEndsAtWrite (resuming_of_resume ha hp)
  · cases h
    exact .inl rfl

theorem restartComplete_followsTable (h : execRestartComplete s = .next t) : FollowsTable .restartComplete s t := by
  refine whileRunning_elim h (.inl rfl) ?_
  split
  · rename_i hr _
    refine .inr ?_
    rw [endRestart_device]
    exact .restartEnds (restarting_of_emptied ha hr)
  · exact .inl rfl

end

section

variable {s : State} (c : Command)

theorem formatEffect_followsTable : FollowsTable .format s (formatEffect s c) := by
  unfold formatEffect
  split
  · exact .inr (.formatBegins (by assumption))
  · exact .inl (answer_device s c _)

theorem resumeEffect_followsTable : FollowsTable .resume s (resumeEffect s c) := by
  unfold resumeEffect
  split
  · rename_i hallowed
    exact .inr (.resumeBegins hallowed.1 (Option.isSome_iff_ne_none.1 hallowed.2))
  · exact .inl (answer_device s c _)

theorem restartEffect_followsTable : FollowsTable .restart s (restartEffect s c) := by
  unfold restartEffect
  split
  · exact .inr (.restartBegins (by assumption))
  · exact .inl (answer_device s c _)

end

/-! ### Every event -/

/-- The event of a command that goes on with the operation in progress, or with none. -/
theorem commandEvent_device {code : Byte} {effect : Command → State} {s t : State}
    (h : onCurrent s code effect = .next t)
    (heffect : inOperation s.engine = false → ∀ c, OperationKept s (effect c)) : t.device = s.device :=
  onCurrent_elim (P := fun u => u.device = s.device) h rfl fun c hc _ => (heffect (by rw [hc]; rfl) c).device

/-- Every event that changes the device state does so by a row of its own. -/
theorem exec_followsTable {c : Instr} {s t : State} (h : exec c s = .next t) (ha : OperationAgrees s) :
    FollowsTable c s t := by
  have kept {u : State} (hu : OperationKept s u) : FollowsTable c s u := .inl hu.device
  cases c with
  | powerOn low sram errors =>
    cases h
    exact .inr (.reset rfl)
  | resetPinAssert words =>
    cases h
    split
    · exact .inl rfl
    · exact .inr (.reset rfl)
  | resetPinDeassert low =>
    cases h
    split
    · exact .inr (.reset rfl)
    · exact .inl rfl
  | tick =>
    refine whileRunning_elim h (.inl rfl) (kept ?_)
    split
    · exact (takeDueStep_operation .none s).trans { }
    · exact { }
  | sweepStep during =>
    refine whileRunning_elim h (.inl rfl) (kept ?_)
    split
    · exact takeDueStep_operation during s
    · exact .refl s
  | ingressTransferBegin first => exact whileRunning_elim h (.inl rfl) (.inl rfl)
  | partialCellDropped _ | cellAccept _ | cellEmit =>
    refine whileRunning_elim h (.inl rfl) (.inl ?_)
    split <;> rfl
  | ingressHeadLeaves =>
    refine whileRunning_elim h (.inl rfl) (kept ?_)
    split
    · exact headLeft_operation (by assumption)
    · exact .refl s
  | egressPlaceGrant requester =>
    refine whileRunning_elim h (.inl rfl) (kept ?_)
    split
    · split
      · exact grantStage_operation s
      · exact serveCell_operation s _
    · exact .refl s
  | memoryIssue =>
    refine whileRunning_elim h (.inl rfl) (kept ?_)
    split
    · exact issueNext_operation s
    · exact .refl s
  | writeBackComplete => exact .inl (execWriteBackComplete_device h)
  | fillReadComplete damage => exact kept (execFillReadComplete_operation h)
  | sweepReadComplete damage during => exact kept (execSweepReadComplete_operation h)
  | sweepWriteComplete during => exact kept (execSweepWriteComplete_operation h)
  | formatWriteComplete => exact formatWriteComplete_followsTable ha h
  | resumeReadComplete damage => exact resumeReadComplete_followsTable ha h
  | resumeWriteComplete => exact resumeWriteComplete_followsTable ha h
  | restartWriteBackRequest =>
    refine whileRunning_elim h (.inl rfl) (.inl ?_)
    split
    · exact requestWriteBacks_device s
    · rfl
  | restartComplete => exact restartComplete_followsTable ha h
  | command tag code params check more => exact kept (execCommand_operation h)
  | responseRead entered more => exact onLink_elim h (.inl rfl) (kept (.of_linkOnly (readResponse_linkOnly s _ _)))
  | noticeRead entered more => exact onLink_elim h (.inl rfl) (kept (.of_linkOnly (readNotice_linkOnly s _ _)))
  | linkStatus more => exact onLink_elim h (.inl rfl) (.inl rfl)
  | voidTransaction first more =>
    refine onLink_elim h (.inl rfl) (.inl ?_)
    split <;> rfl
  | transactionAbandon what => exact kept (execTransactionAbandon_operation h)
  | setup => exact .inl (commandEvent_device h setupEffect_operation)
  | format => exact onCurrent_elim h (.inl rfl) fun c _ _ => formatEffect_followsTable c
  | resume => exact onCurrent_elim h (.inl rfl) fun c _ _ => resumeEffect_followsTable c
  | restart => exact onCurrent_elim h (.inl rfl) fun c _ _ => restartEffect_followsTable c
  | status => exact .inl (commandEvent_device h statusEffect_operation)
  | ruleWrite => exact .inl (commandEvent_device h ruleWriteEffect_operation)
  | ruleRead => exact .inl (commandEvent_device h ruleReadEffect_operation)
  | admitRecord | amend | hold | release | retire | query | pin | unpin => exact kept (recordEvent_operation h)
  | commandStepRetry =>
    refine whileRunning_elim h (.inl rfl) (.inl ?_)
    split
    · rename_i c hc
      exact (recordStep_kept (by rw [hc]; rfl) c _).device
    · rfl

/-- Settles O48: an event that changes the device state does so by a row of R170 (`DeviceRow`). -/
theorem deviceStateTransitions : Obligations.DeviceStateTransitions := by
  unfold Obligations.DeviceStateTransitions
  intro c s t ha h hne
  obtain hsame | hrow := exec_followsTable h ha
  · exact absurd hsame hne
  generalize t.device = d at hrow
  cases hrow with
  | reset event => exact .inl ⟨event, rfl⟩
  | formatBegins device => exact .inr (.inl ⟨rfl, device, rfl⟩)
  | formatEnds device => exact .inr (.inr (.inl ⟨rfl, device, rfl⟩))
  | resumeBegins device preserved => exact .inr (.inr (.inr (.inl ⟨rfl, device, preserved, rfl⟩)))
  | resumeEndsAtRead damage device => exact .inr (.inr (.inr (.inr (.inl ⟨.inl ⟨damage, rfl⟩, device, rfl⟩))))
  | resumeEndsAtWrite device => exact .inr (.inr (.inr (.inr (.inl ⟨.inr rfl, device, rfl⟩))))
  | restartBegins device => exact .inr (.inr (.inr (.inr (.inr (.inl ⟨rfl, device, rfl⟩)))))
  | restartEnds device => exact .inr (.inr (.inr (.inr (.inr (.inr ⟨rfl, device, rfl⟩)))))

end Sys2Proof.Proofs

/-! SUPPORT. The events that cannot occur (R136, R172, log 1, log 3, log 20): every event under the RESET pin, and the
row of a command that is not at its checks. -/

namespace Sys2Proof.Proofs

open Sys2Proof Sys2Proof.Machine Sys2Proof.Safety Sys2Proof.Laws

/-! ### Under the RESET pin (R172) -/

section

variable {s : State} (hpin : s.resetPin = true)

include hpin

theorem whileRunning_asserted (t : State) : whileRunning s t = .next s := by simp [whileRunning, hpin]

theorem completing_asserted (n : Nat) (t : State) : completing n s t = .next s := by simp [completing, hpin]

theorem onLink_asserted (t : State) : onLink s t = .next s := by simp [onLink, hpin]

/-- Under the RESET pin every event but the resets is one of four kinds: held back as a whole, on the link, an abandoned
transaction, or the completion of whatever is in flight. -/
theorem exec_asserted {c : Instr} (hc : isResetEvent c = false) : exec c s = .next s := by
  cases c with
  | powerOn _ _ _ | resetPinAssert _ | resetPinDeassert _ => cases hc
  | tick | sweepStep _ | restartWriteBackRequest | restartComplete | commandStepRetry
  | ingressTransferBegin _ | partialCellDropped _ | cellAccept _ | ingressHeadLeaves | egressPlaceGrant _ | cellEmit
  | memoryIssue | setup | format | resume | restart | status | ruleWrite | ruleRead
  | admitRecord | amend | hold | release | retire | query | pin | unpin =>
    exact whileRunning_asserted hpin _
  | command _ _ _ _ _ | responseRead _ _ | noticeRead _ _ | linkStatus _ | voidTransaction _ _ =>
    exact onLink_asserted hpin _
  | transactionAbandon what => simp [exec, execTransactionAbandon, hpin]
  | writeBackComplete | fillReadComplete _ | sweepReadComplete _ _ | sweepWriteComplete _ | formatWriteComplete
  | resumeReadComplete _ | resumeWriteComplete =>
    simp only [exec, execWriteBackComplete, execFillReadComplete, execSweepReadComplete, execSweepWriteComplete,
      execFormatWriteComplete, execResumeReadComplete, execResumeWriteComplete, completing_asserted hpin]
    repeat' split
    all_goals rfl

end

/-! ### A command that is not at its checks (R136) -/

theorem onCurrent_of_other {s : State} {code : Byte} (h : ∀ c, s.engine = .checking c → c.code ≠ code)
    (effect : Command → State) : onCurrent s code effect = .next s := by
  refine (congrArg (whileRunning s) ?_).trans (congrArg Host.Outcome.next (ite_self s))
  split
  · rename_i c hc
    rw [if_neg (h c hc)]
  · rfl

/-- The row of every command is taken for the current command of its code alone (R181). -/
theorem exec_command_eq_onCurrent (s : State) {x : Instr × Byte} (hx : x ∈ allCommands) :
    ∃ effect, exec x.1 s = onCurrent s x.2 effect := by
  simp only [allCommands, recordCommands, List.cons_append, List.nil_append, List.mem_cons, List.not_mem_nil,
    or_false] at hx
  obtain rfl | rfl | rfl | rfl | rfl | rfl | rfl | rfl | rfl | rfl | rfl | rfl | rfl | rfl | rfl := hx <;>
    exact ⟨_, rfl⟩

/-- Settles O3: under the RESET pin by the kinds of events (`exec_asserted`); a command's row by `onCurrent`. -/
theorem eventsThatCannotOccurDoNothing : Obligations.EventsThatCannotOccurDoNothing := by
  unfold Obligations.EventsThatCannotOccurDoNothing
  refine ⟨fun c s hpin hc => exec_asserted hpin hc, fun s x hx hother => ?_⟩
  obtain ⟨effect, heffect⟩ := exec_command_eq_onCurrent s hx
  rw [heffect, onCurrent_of_other hother]

end Sys2Proof.Proofs

/-! SUPPORT. The reset state (R172): the values listed, which power-on and both edges of the RESET pin leave, and the
invariants that hold of it. -/

namespace Sys2Proof.Proofs

open Sys2Proof Sys2Proof.Machine Sys2Proof.Safety Sys2Proof.Laws

/-! ### The listed values (R172) -/

/-- Every block at its reset value, whatever record memory holds. -/
theorem resetDevice_atResetValues (s : State) (asserted linkWaits : Bool) (m : Memory) :
    AtResetValues { resetDevice s asserted linkWaits with memory := m } := by
  have hrules (k : Fin 16) : (Vector.replicate 16 Rule.initial)[k] = ⟨false, 0, 0, 0, 0, 0, 1⟩ := by simp [Rule.initial]
  unfold AtResetValues
  refine ⟨rfl, rfl, rfl, rfl, rfl, rfl, rfl, hrules, lineAt_replicate, ?_⟩
  and_intros <;> rfl

/-- Settles O2: each reset leaves `resetDevice` with the pin, the link and record memory of its own. -/
theorem resetLeavesListedValues : Obligations.ResetLeavesListedValues := by
  unfold Obligations.ResetLeavesListedValues
  refine ⟨resetDevice_atResetValues State.reset false false _, fun low sram errors s => ?_, fun words s hpin => ?_,
    fun low s hpin => ?_⟩
  · exact ⟨_, rfl, resetDevice_atResetValues s false low _, rfl, rfl⟩
  · refine ⟨{ resetDevice s true false with memory := cutShort s words }, ?_,
      resetDevice_atResetValues s true false _, rfl⟩
    simp [exec, execResetPinAssert, hpin]
  · refine ⟨resetDevice s false low, ?_, resetDevice_atResetValues s false low s.memory, rfl, rfl, rfl⟩
    simp [exec, execResetPinDeassert, hpin]

/-! ### The invariants -/

theorem reset_numbersBelow {b : Nat} (hb : 4096 ≤ b) : NumbersBelow b State.reset :=
  NumbersBelow.of_reset (s := State.reset) hb false false ⟨[], []⟩

/-- Nothing is in the Record Store, and nothing is asked for (R172). -/
theorem reset_storeSound : StoreSound State.reset := by
  refine .of_empty rfl lineAt_replicate rfl ?_ ?_ ?_ ?_ <;> simp [sweepsAsked_eq, State.reset]

/-- A memory that nothing has written reads as 0 (log 5). -/
theorem readWord_reset (w : Nat) : State.reset.memory.readWord w = 0 := by
  have hbyte (a : Nat) : State.reset.memory.readByte a = 0 := rfl
  simp only [Memory.readWord, hbyte]
  rfl

/-- Record memory reads as a FORMAT pass leaves it. -/
theorem reset_passDone : PassDone State.reset :=
  BlankBelow.passDone (fun n k _ _ => readWord_reset (16 * n + k)) ⟨lineAt_replicate, rfl, rfl, rfl, rfl, rfl⟩
    (reset_numbersBelow (Nat.le_refl 4096)).rules rfl rfl rfl

/-- Settles O49: the resets bring the invariants of rooms, operation, copies and numbers from any state; the store is
empty; and the laws of R18 and R13 are those that a FORMAT pass leaves. -/
theorem resetMeetsInvariants : Obligations.ResetMeetsInvariants := by
  unfold Obligations.ResetMeetsInvariants
  obtain ⟨hdistinct, hagrees⟩ := (storeSound_iff State.reset).1 reset_storeSound
  exact ⟨resetDevice_bounded State.reset false false ⟨[], []⟩, reset_coherent State.reset false false ⟨[], []⟩,
    conserved_of_zero rfl rfl rfl, hdistinct,
    (copiesBudgeted_iff _).1 (CopiesBudgeted.resetDevice State.reset false false ⟨[], []⟩),
    (numbersExist_iff _).2 (reset_numbersBelow (by decide)), Memory.wf_reset, hagrees,
    reset_passDone.occupancyAgrees, reset_passDone.recordsFit rfl rfl, reset_passDone.owedAgrees⟩

end Sys2Proof.Proofs

/-! SUPPORT. The step (00_scope.md, log 2): the event at the front of the queue, and the idle block. -/

namespace Sys2Proof.Proofs

open Sys2Proof Sys2Proof.Machine

theorem step_of_cons (c : Instr) (rest : List Instr) (s : State) :
    step { s with pending := c :: rest } = exec c { s with pending := rest } := rfl

theorem step_of_nil {s : State} (h : s.pending = []) : step s = .next s := by
  rw [step, h]

/-- Settles O1, by the two forms of the queue. -/
theorem stepTakesFrontEvent : Obligations.StepTakesFrontEvent := by
  unfold Obligations.StepTakesFrontEvent
  exact ⟨step_of_cons, fun _ h => step_of_nil h⟩

end Sys2Proof.Proofs

/-! SUPPORT. The formats of the link (R159, R160, R164 to R166, R181, R182): the codes, the detail of a notice, the
lengths of the frames, and the event that the bytes of a transaction come to. -/

namespace Sys2Proof.Proofs

open Sys2Proof Sys2Proof.Machine

/-! ### The detail of a notice (R182) -/

/-- Each kind of an owed set has its bit. -/
theorem getLsbD_bits (o : OwedSet) :
    o.bits.getLsbD 0 = o.expired ∧ o.bits.getLsbD 1 = o.idle ∧ o.bits.getLsbD 2 = o.alert ∧
      o.bits.getLsbD 3 = o.faulted := by
  have hread := ofBits_bits o
  exact ⟨congrArg OwedSet.expired hread, congrArg OwedSet.idle hread, congrArg OwedSet.alert hread,
    congrArg OwedSet.faulted hread⟩

/-- The kinds dropped stand in the low four bits. -/
theorem toNat_detail_idleRetired (o : OwedSet) : (NoticeBody.idleRetired o).detail.toNat = o.bits.toNat := by
  rw [NoticeBody.detail, BitVec.toNat_setWidth_of_le (by decide)]

/-- The fault source stands in bits 1 and 0, and the owed set lost in bit 2. -/
theorem toNat_detail_faulted (source : FaultSource) (lost : Bool) :
    (NoticeBody.faulted source lost).detail.toNat = source.code.toNat + if lost then 4 else 0 := by
  cases source <;> cases lost <;> rfl

/-! ### The lengths of what the part drives (R160, R164 to R166) -/

@[simp] theorem length_withCheck (frame : List Byte) : (withCheck frame).length = frame.length + 2 := by
  rw [withCheck, checkBytes, List.length_append, length_beBytes]

theorem length_responseFrame (r : Response) : (responseFrame r).length = r.payload.length + 6 := by
  simp [responseFrame]

theorem length_noticeFrame (n : Notice) : (noticeFrame n).length = 17 := by
  simp [noticeFrame]

theorem length_statusBytes (s : State) : (statusBytes s).length = 9 := by
  simp [statusBytes, statusFrame]

theorem length_readBytes_zero (frame : List Byte) : (readBytes 0 frame).length = 2 := rfl

theorem length_responseBytes_of_pos {s : State} {x : Response} {rest : List Response} {count : Nat}
    (hhead : s.responses = x :: rest) (h : 1 ≤ count) :
    (responseBytes s count).length = x.payload.length + 8 := by
  rw [responseBytes_of_pos hhead h, List.length_cons, List.length_cons, length_responseFrame]

theorem length_noticeBytes_of_pos {s : State} {count : Nat} (hqueue : s.notices ≠ []) (h : 1 ≤ count) :
    (noticeBytes s count).length = 19 := by
  obtain ⟨x, rest, hhead⟩ := List.exists_cons_of_ne_nil hqueue
  rw [noticeBytes_of_pos hhead h, List.length_cons, List.length_cons, length_noticeFrame]

/-! ### The event of a read (R159) -/

/-- A read whose defined end is `n` bytes behind the kind byte, by the bytes clocked behind that. -/
theorem readEvent_of_length {n : Nat} {whole : List Byte} (hlength : whole.length = n + 1) (sent : List Byte)
    (abandon : Abandoned) (completed : Nat → Instr) :
    (n ≤ sent.length → readEvent (sent.length + 1) whole abandon completed = completed (sent.length - n)) ∧
      (sent.length < n → readEvent (sent.length + 1) whole abandon completed = .transactionAbandon abandon) := by
  rw [readEvent, hlength, Nat.add_sub_add_right]
  exact ⟨fun h => if_neg (by omega), fun h => if_pos (by omega)⟩

section

variable (s : State) (sent : List Byte) (entered : Nat)

theorem transactionEvent_command : transactionEvent s (0xA1 :: sent) entered = commandEvent sent := rfl

theorem transactionEvent_responseRead :
    transactionEvent s (0xA2 :: sent) entered =
      readEvent (sent.length + 1) (responseBytes s (s.responses.length - entered))
        (.responseRead entered (sent.length + 1)) fun more => .responseRead entered more := rfl

theorem transactionEvent_noticeRead :
    transactionEvent s (0xA3 :: sent) entered =
      readEvent (sent.length + 1) (noticeBytes s (s.notices.length - entered))
        (.noticeRead entered (sent.length + 1)) fun more => .noticeRead entered more := rfl

theorem transactionEvent_linkStatus :
    transactionEvent s (0xA4 :: sent) entered =
      readEvent (sent.length + 1) (statusBytes s) (.linkStatus (sent.length + 1)) fun more => .linkStatus more := rfl

theorem transactionEvent_void {b : Byte} (hb : LinkKind.ofCode b = none) :
    transactionEvent s (b :: sent) entered = .voidTransaction b sent.length := by
  rw [transactionEvent, hb]

end

/-- A read that took no member ends with its count byte. -/
theorem readEvent_of_zero (sent frame : List Byte) (abandon : Nat → Abandoned) (completed : Nat → Instr) :
    (1 ≤ sent.length →
      readEvent (sent.length + 1) (readBytes 0 frame) (abandon (sent.length + 1)) completed =
        completed (sent.length - 1)) ∧
      (sent = [] →
        readEvent (sent.length + 1) (readBytes 0 frame) (abandon (sent.length + 1)) completed =
          .transactionAbandon (abandon 1)) := by
  obtain ⟨hcompleted, habandoned⟩ :=
    readEvent_of_length (length_readBytes_zero frame) sent (abandon (sent.length + 1)) completed
  refine ⟨hcompleted, ?_⟩
  rintro rfl
  exact habandoned Nat.zero_lt_one

/-! ### The event of a COMMAND (R160) -/

/-- The two bytes behind the parameters are the check value. -/
theorem field16_behind (params more : List Byte) (check : BitVec 16) :
    field16 (params ++ [check.extractLsb' 8 8, check.extractLsb' 0 8] ++ more) params.length = check := by
  have hbytes : check.extractLsb' 8 8 ++ check.extractLsb' 0 8 = check := by
    rw [BitVec.extractLsb'_append_extractLsb'_eq_extractLsb' (by decide), BitVec.extractLsb'_eq_self]
  simp [field16, byteAt, hbytes]

/-- With both check bytes the frame is whole. -/
theorem commandEvent_of_whole (tag code : Byte) {params : List Byte} (hlength : params.length ≤ 255)
    (check : BitVec 16) (more : List Byte) :
    commandEvent
        (BitVec.ofNat 8 params.length :: tag :: code ::
          (params ++ [check.extractLsb' 8 8, check.extractLsb' 0 8] ++ more)) =
      .command tag code params check more.length := by
  have hn : (BitVec.ofNat 8 params.length).toNat = params.length := Nat.mod_eq_of_lt (by omega)
  have hrest : (params ++ [check.extractLsb' 8 8, check.extractLsb' 0 8] ++ more).length =
      params.length + 2 + more.length := by
    rw [List.length_append, List.length_append]
    rfl
  rw [commandEvent, hn, hrest, field16_behind, if_pos (by omega), Nat.add_sub_cancel_left, List.append_assoc,
    List.take_left]

/-- Before its second check byte the transaction is abandoned. -/
theorem commandEvent_of_cut {sent : List Byte}
    (h : sent.length < 3 ∨
      ∃ length tag code rest, sent = length :: tag :: code :: rest ∧ rest.length < length.toNat + 2) :
    commandEvent sent = .transactionAbandon (.command (sent.length + 1)) := by
  unfold commandEvent
  split
  · rename_i length tag code rest
    obtain hshort | ⟨_, _, _, _, heq, hcut⟩ := h
    · simp only [List.length_cons] at hshort
      omega
    · cases heq
      exact if_neg (Nat.not_le.2 hcut)
  · rfl

/-- Settles O36: the codes by their tables, a notice's detail by its fields, and the event of a transaction by its kind
and the length at which that kind ends. -/
theorem frameCodes : Obligations.FrameCodes := by
  unfold Obligations.FrameCodes
  refine ⟨?_, fun o count source lost =>
    ⟨getLsbD_bits o, rfl, rfl, rfl, rfl, toNat_detail_idleRetired o, toNat_detail_faulted source lost⟩,
    fun s entered => ⟨?_, fun sent h => ?_, fun sent => ⟨fun hnone => ?_, fun x rest hhead hsome => ?_⟩,
      fun sent => ⟨fun hnone => ?_, fun hsome => ?_⟩, fun sent => ?_, rfl, fun b more hb => ?_⟩⟩
  · and_intros <;> rfl
  · intro tag code params check more hlength
    rw [transactionEvent_command]
    exact commandEvent_of_whole tag code hlength check more
  · rw [transactionEvent_command]
    exact commandEvent_of_cut h
  · rw [transactionEvent_responseRead, Nat.sub_eq_zero_of_le hnone]
    exact readEvent_of_zero sent _ (.responseRead entered) (.responseRead entered ·)
  · rw [transactionEvent_responseRead]
    exact readEvent_of_length (length_responseBytes_of_pos hhead (by omega)) sent _ _
  · rw [transactionEvent_noticeRead, Nat.sub_eq_zero_of_le hnone]
    exact readEvent_of_zero sent _ (.noticeRead entered) (.noticeRead entered ·)
  · rw [transactionEvent_noticeRead]
    have hqueue : s.notices ≠ [] := List.length_pos_iff.1 (by omega)
    exact readEvent_of_length (length_noticeBytes_of_pos hqueue (by omega)) sent _ _
  · rw [transactionEvent_linkStatus]
    exact readEvent_of_length (length_statusBytes s) sent _ _
  · exact transactionEvent_void s more entered (ofCode_eq_none hb)

end Sys2Proof.Proofs
